-- ==== Sys2Proof/Word.lean ====
section
/-! DEFINITION. The word types of DS2-ACB (00_scope.md R9, R11, R12). -/

namespace Sys2Proof

/-- Command and response words: 32 bits, bit 0 the least significant (R9, R11). -/
abbrev Word := BitVec 32

/-- The 16-bit registers and the command's `imm` field (R9, R100). -/
abbrev Half := BitVec 16

/-- The command's `op` and `id` fields, and a byte of a byte-serial link (R83, R100). -/
abbrev Byte := BitVec 8

/-- A speed register: 8 bits, read as two's complement (R9, R12). -/
abbrev Speed := BitVec 8

/-- The filter state: 24 bits, unsigned Q16.8 (R9, R35). -/
abbrev FiltWord := BitVec 24

end Sys2Proof
end

