-- ==== Sys2Proof/Syntax.lean ====
section
/-! DEFINITION. The names of the hardware's parts and the whole command set:
motors, servos and channels (R3, R14), opcodes and sub-formats (R101 to R107),
status codes (R113), the fields of a command word (R100) and the commands (`Instr`). -/

namespace Sys2Proof

/-- The two drive motors; R115 writes motor 0 as LEFT and motor 1 as RIGHT. -/
inductive Motor where
  | left
  | right
  deriving DecidableEq, Repr

/-- The two position servos (R3); R115 writes them S0 and S1. -/
inductive Servo where
  | s0
  | s1
  deriving DecidableEq, Repr

/-- The four PWM channels (R14, R50). -/
inductive Channel where
  | c0
  | c1
  | c2
  | c3
  deriving DecidableEq, Repr

/-- What a channel's value means to the PWM device (R51, R341). -/
inductive DutyKind where
  /-- A percentage, 0..100. -/
  | percent
  /-- Timer ticks. -/
  | raw
  deriving DecidableEq, Repr

/-- One value for each motor: the bank `r[m]`, m = 0, 1, of R30. -/
structure PerMotor (α : Type) where
  left : α
  right : α
  deriving DecidableEq, Repr, Inhabited

/-- One value for each servo: the bank `r[s]`, s = 0, 1, of R30. -/
structure PerServo (α : Type) where
  s0 : α
  s1 : α
  deriving DecidableEq, Repr

/-- One value for each PWM channel: the bank `r[c]`, c = 0..3, of R30. -/
structure PerChannel (α : Type) where
  c0 : α
  c1 : α
  c2 : α
  c3 : α
  deriving DecidableEq, Repr

/-- Read entry `m` of a per-motor bank. -/
def PerMotor.get {α : Type} (p : PerMotor α) : Motor → α
  | .left => p.left
  | .right => p.right

/-- Write entry `m` of a per-motor bank. -/
def PerMotor.set {α : Type} (p : PerMotor α) (m : Motor) (a : α) : PerMotor α :=
  match m with
  | .left => { p with left := a }
  | .right => { p with right := a }

/-- Read entry `s` of a per-servo bank. -/
def PerServo.get {α : Type} (p : PerServo α) : Servo → α
  | .s0 => p.s0
  | .s1 => p.s1

/-- Write entry `s` of a per-servo bank. -/
def PerServo.set {α : Type} (p : PerServo α) (v : Servo) (a : α) : PerServo α :=
  match v with
  | .s0 => { p with s0 := a }
  | .s1 => { p with s1 := a }

/-- Read entry `c` of a per-channel bank. -/
def PerChannel.get {α : Type} (p : PerChannel α) : Channel → α
  | .c0 => p.c0
  | .c1 => p.c1
  | .c2 => p.c2
  | .c3 => p.c3

/-- Write entry `c` of a per-channel bank. -/
def PerChannel.set {α : Type} (p : PerChannel α) (c : Channel) (a : α) : PerChannel α :=
  match c with
  | .c0 => { p with c0 := a }
  | .c1 => { p with c1 := a }
  | .c2 => { p with c2 := a }
  | .c3 => { p with c3 := a }

/-- The sub-formats of R102 to R107. -/
inductive SubFormat where
  /-- N: no operand (R102). -/
  | none
  /-- M: a motor id (R103). -/
  | motor
  /-- MS: a motor id and a speed (R104). -/
  | motorSpeed
  /-- R: a ramp rate (R105). -/
  | rate
  /-- S: a servo id (R106). -/
  | servo
  /-- SA: a servo id and an angle (R107). -/
  | servoAngle
  deriving DecidableEq, Repr

/-- The fourteen defined opcodes of R101. -/
inductive Opcode where
  | nop
  | motorForward
  | motorBackward
  | motorBrake
  | motorNeutral
  | motorSetRampRate
  | motorGetRampRate
  | motorGetSpeedTarget
  | motorGetSpeedCurrent
  | motorGetCurrent
  | motorGetDriveMode
  | servoSet
  | servoTest
  | servoGetStatus
  deriving DecidableEq, Repr

/-- The status codes of R113: exactly these six (93_implementation_defined.md I23). -/
inductive Status where
  | ok
  | outOfRange
  | illegalOpcode
  | reservedField
  | badId
  | busy
  deriving DecidableEq, Repr

/-- The three fields of a command word (R100), before any check. -/
structure CommandFields where
  op : Byte
  id : Byte
  imm : Half
  deriving DecidableEq, Repr

/-- The host commands: one constructor for each row of spec/opcode_table.json.
A motor or servo operand is a checked id (R103 to R107); a speed, rate or angle operand is
the whole 16-bit `imm` field, every value of which is encodable (R104, R105, R107). -/
inductive Instr where
  /-- NOP (R310). -/
  | nop
  /-- MOTOR_FORWARD (R170). -/
  | motorForward (m : Motor) (imm : Half)
  /-- MOTOR_BACKWARD (R180). -/
  | motorBackward (m : Motor) (imm : Half)
  /-- MOTOR_BRAKE (R190). -/
  | motorBrake (m : Motor)
  /-- MOTOR_NEUTRAL (R195). -/
  | motorNeutral (m : Motor)
  /-- MOTOR_SET_RAMP_RATE (R200). -/
  | motorSetRampRate (imm : Half)
  /-- MOTOR_GET_RAMP_RATE (R205). -/
  | motorGetRampRate
  /-- MOTOR_GET_SPEED_TARGET (R206). -/
  | motorGetSpeedTarget (m : Motor)
  /-- MOTOR_GET_SPEED_CURRENT (R207). -/
  | motorGetSpeedCurrent (m : Motor)
  /-- MOTOR_GET_CURRENT (R208). -/
  | motorGetCurrent (m : Motor)
  /-- MOTOR_GET_DRIVE_MODE (R209). -/
  | motorGetDriveMode (m : Motor)
  /-- SERVO_SET (R260). -/
  | servoSet (v : Servo) (imm : Half)
  /-- SERVO_TEST (R265). -/
  | servoTest (v : Servo)
  /-- SERVO_GET_STATUS (R268). -/
  | servoGetStatus (v : Servo)
  deriving DecidableEq, Repr

end Sys2Proof
end

