-- ==== Sys2Proof/Config.lean ====
section
/-! DEFINITION. The build-time parameters of R8, the input ports of R55, and the one free value:
the inputs the outside world presents in a cycle that no queued input describes. -/

namespace Sys2Proof

/-- The calibration `(dmin, dzero, dmax)` of one servo, raw duty values (R8, R39). -/
structure ServoCal where
  dmin : Nat
  dzero : Nat
  dmax : Nat
  deriving DecidableEq, Repr

/-- The OPEN parameters of R8. They are numbers fixed at build time, not registers;
no command reads or writes them. Their legal values are checked in WellFormed.lean. -/
structure Config where
  /-- `ADC_WIDTH`. -/
  adcWidth : Nat
  /-- `SENSE_NUM`. -/
  senseNum : Nat
  /-- `SENSE_DEN`. -/
  senseDen : Nat
  /-- `ALPHA_Q8`. -/
  alphaQ8 : Nat
  /-- `SERVO_CAL[s]`. -/
  servoCal : PerServo ServoCal
  /-- `SERVO_INVERT[s]`. -/
  servoInvert : PerServo Bool
  /-- `SERVO_SETTLE_MS`. -/
  settleMs : Nat
  /-- `SERVO_TEST_STEP_DEG`. -/
  testStepDeg : Nat
  deriving DecidableEq, Repr

/-- `SPEED_MAX`, fixed (R8). -/
def Config.speedMax : Int := 100

/-- `ANGLE_LIMIT`, fixed; also the interpolation divisor (R8, 90_conflicts.md C7). -/
def Config.angleLimit : Int := 90

/-- `N = 180 / SERVO_TEST_STEP_DEG` (R41, R266). -/
def Config.sweepN (c : Config) : Nat := 180 / c.testStepDeg

/-- The test configuration TC1 of 95_test_vectors.md section 0.
The spec does not claim it of any built unit (R8); the model uses it as the configuration of
`State.reset` only (DESIGN CHOICE, log entry 2). -/
def Config.tc1 : Config where
  adcWidth := 12
  senseNum := 1
  senseDen := 1
  alphaQ8 := 102
  servoCal := ⟨⟨1000, 1500, 2000⟩, ⟨700, 1450, 2300⟩⟩
  servoInvert := ⟨false, true⟩
  settleMs := 3
  testStepDeg := 45

/-- The input ports sampled at one rising clock edge (R55).
`isense` is 16 wires a motor, of which the block reads the low `ADC_WIDTH` (`readSense`). -/
structure Inputs where
  rst : Bool
  cmdValid : Bool
  cmdWord : Word
  msStrobe : Bool
  isense : PerMotor Half
  deriving DecidableEq, Repr, Inhabited

/-- A cycle with no reset, no command and no strobe. -/
def Inputs.idle : Inputs := ⟨false, false, 0, false, ⟨0, 0⟩⟩

/-- A cycle that presents command word `w` and no strobe. -/
def Inputs.command (w : Word) : Inputs := { Inputs.idle with cmdValid := true, cmdWord := w }

/-- A cycle with a strobe and no command, with the given current-sense readings. -/
def Inputs.strobe (isense : PerMotor Half) : Inputs :=
  { Inputs.idle with msStrobe := true, isense := isense }

/-- FREE VALUE: the inputs of a cycle the queue `State.inputs` says nothing about, one for each
value of the counter `State.draws` (R55: `isense` is a free draw; R344: the strobe is a free
input; the host decides what it presents, R312). It has no body, so nothing can be proved of
it (log entry 3). -/
opaque Config.freeInputs : Nat → Inputs

end Sys2Proof
end

