-- ==== Sys2Proof/WellFormed.lean ====
section
/-! DEFINITION. The checks on what is given from outside as raw numbers: the configuration
(the legal values of R8) and the fields of a command word (R102 to R107, R110, R111).
An `Instr` holds checked operands, so it needs no check of its own. -/

namespace Sys2Proof

/-- `ADC_WIDTH` is 1..16 (R8). -/
abbrev Config.AdcWidthLegal (c : Config) : Prop := 1 ≤ c.adcWidth ∧ c.adcWidth ≤ 16

/-- `SENSE_NUM` is 1..65535 (R8). -/
abbrev Config.SenseNumLegal (c : Config) : Prop := 1 ≤ c.senseNum ∧ c.senseNum ≤ 65535

/-- `SENSE_DEN` is 1..65535 (R8). -/
abbrev Config.SenseDenLegal (c : Config) : Prop := 1 ≤ c.senseDen ∧ c.senseDen ≤ 65535

/-- `ALPHA_Q8` is 1..256 (R8). -/
abbrev Config.AlphaLegal (c : Config) : Prop := 1 ≤ c.alphaQ8 ∧ c.alphaQ8 ≤ 256

/-- `0 <= dmin <= dzero <= dmax <= 65535` (R8, R39). -/
abbrev ServoCal.Monotone (c : ServoCal) : Prop :=
  c.dmin ≤ c.dzero ∧ c.dzero ≤ c.dmax ∧ c.dmax ≤ 65535

/-- Both calibrations are monotone (R8). -/
abbrev Config.CalLegal (c : Config) : Prop := c.servoCal.s0.Monotone ∧ c.servoCal.s1.Monotone

/-- `SERVO_SETTLE_MS` is 1..65535 (R8). -/
abbrev Config.SettleLegal (c : Config) : Prop := 1 ≤ c.settleMs ∧ c.settleMs ≤ 65535

/-- `SERVO_TEST_STEP_DEG` is a divisor of 90 (R8 lists all twelve). -/
abbrev Config.TestStepLegal (c : Config) : Prop :=
  c.testStepDeg ∈ [1, 2, 3, 5, 6, 9, 10, 15, 18, 30, 45, 90]

/-- A configuration R8 gives a meaning to. -/
abbrev Config.WellFormed (c : Config) : Prop :=
  c.AdcWidthLegal ∧ c.SenseNumLegal ∧ c.SenseDenLegal ∧ c.AlphaLegal ∧ c.CalLegal ∧
    c.SettleLegal ∧ c.TestStepLegal

/-- The `id` field is 0 in sub-formats N and R (R102, R105). -/
abbrev CommandFields.IdUnusedIsZero (f : SubFormat) (c : CommandFields) : Prop :=
  f = .none ∨ f = .rate → c.id = 0

/-- The `imm` field is 0 in sub-formats N, M and S (R102, R103, R106). -/
abbrev CommandFields.ImmUnusedIsZero (f : SubFormat) (c : CommandFields) : Prop :=
  f = .none ∨ f = .motor ∨ f = .servo → c.imm = 0

/-- The `id` field names a motor or servo that exists in sub-formats M, MS, S and SA
(R103, R104, R106, R107, R111). -/
abbrev CommandFields.IdExists (f : SubFormat) (c : CommandFields) : Prop :=
  f = .motor ∨ f = .motorSpeed ∨ f = .servo ∨ f = .servoAngle → c.id.toNat < 2

/-- The fields of a defined opcode with sub-format `f` meet every constraint of that sub-format. -/
abbrev CommandFields.WellFormed (f : SubFormat) (c : CommandFields) : Prop :=
  c.IdUnusedIsZero f ∧ c.ImmUnusedIsZero f ∧ c.IdExists f

end Sys2Proof
end

