-- ==== Sys2Proof/Decode.lean ====
section
/-! DEFINITION. The command encoding (30_encoding.md): the opcode map, the decoder with its
ordered checks, the encoder, and the byte order of a byte-serial link. -/

namespace Sys2Proof

/-- The opcode numbers of R101, from opcode to byte (the encoder's direction). -/
def Opcode.byte : Opcode → Byte
  | .nop => 0x00
  | .motorForward => 0x01
  | .motorBackward => 0x02
  | .motorBrake => 0x03
  | .motorNeutral => 0x04
  | .motorSetRampRate => 0x05
  | .motorGetRampRate => 0x06
  | .motorGetSpeedTarget => 0x08
  | .motorGetSpeedCurrent => 0x09
  | .motorGetCurrent => 0x0A
  | .motorGetDriveMode => 0x0B
  | .servoSet => 0x10
  | .servoTest => 0x11
  | .servoGetStatus => 0x12

/-- The opcode map of R101, from byte to opcode (the decoder's direction).
Every other byte is reserved (R109). -/
def Opcode.ofByte (b : Byte) : Option Opcode :=
  match b.toNat with
  | 0x00 => some .nop
  | 0x01 => some .motorForward
  | 0x02 => some .motorBackward
  | 0x03 => some .motorBrake
  | 0x04 => some .motorNeutral
  | 0x05 => some .motorSetRampRate
  | 0x06 => some .motorGetRampRate
  | 0x08 => some .motorGetSpeedTarget
  | 0x09 => some .motorGetSpeedCurrent
  | 0x0A => some .motorGetCurrent
  | 0x0B => some .motorGetDriveMode
  | 0x10 => some .servoSet
  | 0x11 => some .servoTest
  | 0x12 => some .servoGetStatus
  | _ => none

/-- The sub-format of each opcode (R101). -/
def Opcode.subFormat : Opcode → SubFormat
  | .nop => .none
  | .motorForward => .motorSpeed
  | .motorBackward => .motorSpeed
  | .motorBrake => .motor
  | .motorNeutral => .motor
  | .motorSetRampRate => .rate
  | .motorGetRampRate => .none
  | .motorGetSpeedTarget => .motor
  | .motorGetSpeedCurrent => .motor
  | .motorGetCurrent => .motor
  | .motorGetDriveMode => .motor
  | .servoSet => .servoAngle
  | .servoTest => .servo
  | .servoGetStatus => .servo

/-- Sub-formats whose `id` must be 0: the first field check of R114. -/
def SubFormat.idMustBeZero : SubFormat → Bool
  | .none => true
  | .rate => true
  | .motor => false
  | .motorSpeed => false
  | .servo => false
  | .servoAngle => false

/-- Sub-formats whose `imm` must be 0: the second field check of R114. -/
def SubFormat.immMustBeZero : SubFormat → Bool
  | .none => true
  | .motor => true
  | .servo => true
  | .rate => false
  | .motorSpeed => false
  | .servoAngle => false

/-- The fields of a command word (R100). -/
def fieldsOf (w : Word) : CommandFields :=
  { op := w.extractLsb' 24 8, id := w.extractLsb' 16 8, imm := w.extractLsb' 0 16 }

/-- `{op, id, imm}` as one word (R100). -/
def packWord (op : Byte) (id : Byte) (imm : Half) : Word := op ++ id ++ imm

/-- The motor a zero-extended id names (R81, R103); ids 2..255 name none. -/
def Motor.ofId (id : Byte) : Option Motor :=
  match id.toNat with
  | 0 => some .left
  | 1 => some .right
  | _ => none

/-- The servo a zero-extended id names (R81, R106); ids 2..255 name none. -/
def Servo.ofId (id : Byte) : Option Servo :=
  match id.toNat with
  | 0 => some .s0
  | 1 => some .s1
  | _ => none

/-- The id field of a motor (R115: LEFT = 0, RIGHT = 1). -/
def Motor.idField : Motor → Byte
  | .left => 0
  | .right => 1

/-- The id field of a servo (R115: S0 = 0, S1 = 1). -/
def Servo.idField : Servo → Byte
  | .s0 => 0
  | .s1 => 1

/-- Why a command word is not a command: the three causes of R109 to R111. -/
inductive DecodeError where
  /-- R109: `op` is not in the map. -/
  | illegalOpcode
  /-- R110: a must-be-0 field is not 0. -/
  | reservedField
  /-- R111: no such motor or servo. -/
  | badId
  deriving DecidableEq, Repr

/-- The status that reports a decoding error (R109, R110, R111). -/
def DecodeError.status : DecodeError → Status
  | .illegalOpcode => .illegalOpcode
  | .reservedField => .reservedField
  | .badId => .badId

/-- The command of opcode `op` with the given fields; `none` where the id names no motor or
servo (R103 to R107: ids zero-extended, the `imm` field whole). -/
def buildInstr (op : Opcode) (id : Byte) (imm : Half) : Option Instr :=
  match op with
  | .nop => some .nop
  | .motorForward => (Motor.ofId id).map fun m => .motorForward m imm
  | .motorBackward => (Motor.ofId id).map fun m => .motorBackward m imm
  | .motorBrake => (Motor.ofId id).map .motorBrake
  | .motorNeutral => (Motor.ofId id).map .motorNeutral
  | .motorSetRampRate => some (.motorSetRampRate imm)
  | .motorGetRampRate => some .motorGetRampRate
  | .motorGetSpeedTarget => (Motor.ofId id).map .motorGetSpeedTarget
  | .motorGetSpeedCurrent => (Motor.ofId id).map .motorGetSpeedCurrent
  | .motorGetCurrent => (Motor.ofId id).map .motorGetCurrent
  | .motorGetDriveMode => (Motor.ofId id).map .motorGetDriveMode
  | .servoSet => (Servo.ofId id).map fun v => .servoSet v imm
  | .servoTest => (Servo.ofId id).map .servoTest
  | .servoGetStatus => (Servo.ofId id).map .servoGetStatus

/-- The checks on a defined opcode's fields, in the order of R114. -/
def decodeFields (op : Opcode) (id : Byte) (imm : Half) : Except DecodeError Instr :=
  if op.subFormat.idMustBeZero = true ∧ id ≠ 0 then .error .reservedField
  else if op.subFormat.immMustBeZero = true ∧ imm ≠ 0 then .error .reservedField
  else
    match buildInstr op id imm with
    | none => .error .badId
    | some i => .ok i

/-- The decoder: the dispatch checks of R114, the first that fails decides. -/
def decode (w : Word) : Except DecodeError Instr :=
  match Opcode.ofByte (fieldsOf w).op with
  | none => .error .illegalOpcode
  | some op => decodeFields op (fieldsOf w).id (fieldsOf w).imm

/-- The opcode of a command. -/
def Instr.opcode : Instr → Opcode
  | .nop => .nop
  | .motorForward _ _ => .motorForward
  | .motorBackward _ _ => .motorBackward
  | .motorBrake _ => .motorBrake
  | .motorNeutral _ => .motorNeutral
  | .motorSetRampRate _ => .motorSetRampRate
  | .motorGetRampRate => .motorGetRampRate
  | .motorGetSpeedTarget _ => .motorGetSpeedTarget
  | .motorGetSpeedCurrent _ => .motorGetSpeedCurrent
  | .motorGetCurrent _ => .motorGetCurrent
  | .motorGetDriveMode _ => .motorGetDriveMode
  | .servoSet _ _ => .servoSet
  | .servoTest _ => .servoTest
  | .servoGetStatus _ => .servoGetStatus

/-- The id field of a command (R102 to R107). -/
def Instr.idField : Instr → Byte
  | .nop => 0
  | .motorForward m _ => m.idField
  | .motorBackward m _ => m.idField
  | .motorBrake m => m.idField
  | .motorNeutral m => m.idField
  | .motorSetRampRate _ => 0
  | .motorGetRampRate => 0
  | .motorGetSpeedTarget m => m.idField
  | .motorGetSpeedCurrent m => m.idField
  | .motorGetCurrent m => m.idField
  | .motorGetDriveMode m => m.idField
  | .servoSet v _ => v.idField
  | .servoTest v => v.idField
  | .servoGetStatus v => v.idField

/-- The imm field of a command (R102 to R107). -/
def Instr.immField : Instr → Half
  | .nop => 0
  | .motorForward _ imm => imm
  | .motorBackward _ imm => imm
  | .motorBrake _ => 0
  | .motorNeutral _ => 0
  | .motorSetRampRate imm => imm
  | .motorGetRampRate => 0
  | .motorGetSpeedTarget _ => 0
  | .motorGetSpeedCurrent _ => 0
  | .motorGetCurrent _ => 0
  | .motorGetDriveMode _ => 0
  | .servoSet _ imm => imm
  | .servoTest _ => 0
  | .servoGetStatus _ => 0

/-- The encoder: the word of a command (R100, R115). -/
def encode (i : Instr) : Word := packWord i.opcode.byte i.idField i.immField

/-- A word carried over a byte-serial link, first byte first: `w[7:0]` comes first (R83). -/
def wordOfLinkBytes (b0 b1 b2 b3 : Byte) : Word := b3 ++ b2 ++ b1 ++ b0

/-- The four bytes of a word in the order a byte-serial link sends them (R83). -/
def linkBytesOf (w : Word) : List Byte :=
  [w.extractLsb' 0 8, w.extractLsb' 8 8, w.extractLsb' 16 8, w.extractLsb' 24 8]

/-- Why bytes of a link do not begin with a command. -/
inductive LinkError where
  /-- Fewer than four bytes: no partial word exists (R84), so none is presented yet. -/
  | partialWord
  /-- A whole word that is no command. -/
  | command (e : DecodeError)
  deriving DecidableEq, Repr

/-- The decoder on the bytes of a link: the first command and the bytes after it (R83, R84). -/
def decodeLinkBytes : List Byte → Except LinkError (Instr × List Byte)
  | b0 :: b1 :: b2 :: b3 :: rest =>
    match decode (wordOfLinkBytes b0 b1 b2 b3) with
    | .ok i => .ok (i, rest)
    | .error e => .error (.command e)
  | _ => .error .partialWord

/-- The command word of a row's `nbits` bits `w`: the bits above `nbits` are 0. -/
def tableWord (nbits w : Nat) : Word := BitVec.ofNat 32 (w % 2 ^ nbits)

/-- What the decoder reads from a row's word, laid out as a link stores it (R83);
`none` where the decoder refuses it, or where the row is wider than a command word (R84). -/
def decodeTableWord (nbits w : Nat) : Option Instr :=
  if nbits ≤ 32 then
    match decodeLinkBytes (linkBytesOf (tableWord nbits w)) with
    | .ok (i, _) => some i
    | .error _ => none
  else none

end Sys2Proof
end

