-- ==== Sys2Proof/Machine/State.lean ====
section
/-! DEFINITION. The state of DS2-ACB (R30), what the model carries beside it, the state after
reset (R360), and the reasons a step can stop. -/

namespace Sys2Proof.Machine

/-- One event of a cycle's trace (R13, R53). -/
inductive Event where
  /-- `PWM(c, v)`: the value `v` was written to channel `c`. -/
  | pwm (c : Channel) (v : Half)
  /-- `PIN(m, a, b, e)`: motor `m`'s direction-A, direction-B and enable pins were written. -/
  | pin (m : Motor) (a b e : Bool)
  deriving DecidableEq, Repr

/-- The reasons the machine stops with a fault: none. "No condition in DS2-ACB is fatal" (R324)
and it "raises no exception and takes no trap" (R320), so the type has no value. -/
inductive Fault where
  deriving DecidableEq, Repr

/-- The reasons a step has no meaning. -/
inductive Refusal where
  /-- Raised by no one: every instruction has its meaning. (Safe.) -/
  | notModelled (mnemonic : String)
  /-- Raised by the clock cycle, whatever its inputs, when the configuration breaks a
  "legal values" constraint: "A configuration that breaks a 'legal values' constraint is
  refused: the model gives it no meaning" (R8). (Safe: no such block is built, R364.) -/
  | illegalConfiguration
  deriving DecidableEq, Repr

/-- The architectural state of R30, field for field, and after it the model's own fields. -/
structure State where
  /-- `speed_tgt[m]` (R31). -/
  speedTgt : PerMotor Speed
  /-- `speed_cur[m]` (R32). -/
  speedCur : PerMotor Speed
  /-- `current_raw[m]` (R34). -/
  currentRaw : PerMotor Half
  /-- `filt[m]`, unsigned Q16.8 (R35). -/
  filt : PerMotor FiltWord
  /-- `ramp_rate`; 0 is direct mode (R37). -/
  rampRate : Half
  /-- `ms_count` (R38). -/
  msCount : Half
  /-- `hold_count[s]` (R40). -/
  holdCount : PerServo Half
  /-- `test_active[s]` (R41). -/
  testActive : PerServo Bool
  /-- `test_index[s]` (R41). -/
  testIndex : PerServo Half
  /-- `dir_a[m]` (R45). -/
  dirA : PerMotor Bool
  /-- `dir_b[m]` (R45). -/
  dirB : PerMotor Bool
  /-- `en[m]` (R45). -/
  en : PerMotor Bool
  /-- `pwm_val[c]` (R50, R51). -/
  pwmVal : PerChannel Half
  /-- `pwm_upd[c]` (R52). -/
  pwmUpd : PerChannel Bool
  /-- `resp_valid` (R54). -/
  respValid : Bool
  /-- `resp_word` (R54, R112). -/
  respWord : Word
  /-- MODEL'S OWN: the trace of the last cycle, oldest event first, an observation and not a
  hardware register (R53). -/
  trace : List Event
  /-- MODEL'S OWN: the configuration argument of R8, carried along and never written
  (log entry 2). -/
  cfg : Config
  /-- MODEL'S OWN: the inputs of the coming cycles, next first, where they are given
  (R55; log entry 3). -/
  inputs : List Inputs
  /-- MODEL'S OWN: how many cycles have drawn free inputs (log entry 3). -/
  draws : Nat
  deriving DecidableEq, Repr

/-- The output ports: these "and no others" (R56). -/
structure Outputs where
  dirA : PerMotor Bool
  dirB : PerMotor Bool
  en : PerMotor Bool
  pwmVal : PerChannel Half
  pwmUpd : PerChannel Bool
  respValid : Bool
  respWord : Word
  cmdReady : Bool
  deriving DecidableEq, Repr

/-- The state after `ResetState()` (R360) of a unit configured as `c`, with no input given yet. -/
def State.afterReset (c : Config) : State where
  speedTgt := ⟨0, 0⟩
  speedCur := ⟨0, 0⟩
  currentRaw := ⟨0, 0⟩
  filt := ⟨0, 0⟩
  rampRate := 0
  msCount := 0
  holdCount := ⟨0, 0⟩
  testActive := ⟨false, false⟩
  testIndex := ⟨0, 0⟩
  dirA := ⟨false, false⟩
  dirB := ⟨false, false⟩
  en := ⟨false, false⟩
  pwmVal := ⟨0, 0, 0, 0⟩
  pwmUpd := ⟨false, false, false, false⟩
  respValid := false
  respWord := 0
  trace := []
  cfg := c
  inputs := []
  draws := 0

/-- The machine right after reset (R360, R362), configured as the test configuration TC1
(DESIGN CHOICE, log entry 2: the spec leaves the parameters open). -/
def State.reset : State := State.afterReset Config.tc1

end Sys2Proof.Machine
end

