-- ==== Sys2Proof/Machine/Operands.lean ====
section
/-! DEFINITION. The integer primitives of R13, the operand forms of the commands
(R104, R105, R107, R108, R171, R181), and which channel a motor or servo drives (R14, R50). -/

namespace Sys2Proof.Machine

/-- `clamp(v, lo, hi)` (R13). -/
def clamp (v lo hi : Int) : Int := if v < lo then lo else if v > hi then hi else v

/-- `tdiv(a, b)`, truncated toward zero (R13). -/
def tdiv (a b : Int) : Int := Int.tdiv a b

/-- `fdiv(a, b)`, floor division (R13). -/
def fdiv (a b : Int) : Int := Int.fdiv a b

/-- Motor `m` drives channel `m` (R14, R50). -/
def motorChannel : Motor → Channel
  | .left => .c0
  | .right => .c1

/-- Servo `s` drives channel `2 + s` (R14, R50). -/
def servoChannel : Servo → Channel
  | .s0 => .c2
  | .s1 => .c3

/-- The value kind of each channel: motor channels carry PERCENT, servo channels RAW (R51). -/
def channelKind : Channel → DutyKind
  | .c0 => .percent
  | .c1 => .percent
  | .c2 => .raw
  | .c3 => .raw

/-- `zext_16(imm)`: a speed or rate operand (R104, R105). -/
def zextImm (imm : Half) : Int := Int.ofNat imm.toNat

/-- `sext_16(imm)`: an angle operand (R107). -/
def sextImm (imm : Half) : Int := imm.toInt

/-- `Mag(u) = min(u, 100)` (R171). -/
def mag (u : Int) : Int := min u Config.speedMax

/-- An angle SERVO_SET accepts: the closed range [-90, 90] (R260). -/
def angleInRange (angle : Int) : Bool :=
  decide (-Config.angleLimit ≤ angle ∧ angle ≤ Config.angleLimit)

/-- A signed value as the contents of a speed register (R9, R12). -/
def speedOfInt (v : Int) : Speed := BitVec.ofInt 8 v

/-- A value as the contents of a 16-bit register (R9, R12). -/
def halfOfInt (v : Int) : Half := BitVec.ofInt 16 v

/-- A value as the contents of a filter register (R9, R12). -/
def filtOfInt (v : Int) : FiltWord := BitVec.ofInt 24 v

/-- The value of an unsigned 16-bit register (R12). -/
def intOfHalf (h : Half) : Int := Int.ofNat h.toNat

/-- The value of a filter register, `256` times the current it stands for (R12, R35). -/
def intOfFilt (f : FiltWord) : Int := Int.ofNat f.toNat

end Sys2Proof.Machine
end

