-- ==== Sys2Proof/Machine/Flags.lean ====
section
/-! DEFINITION. DS2-ACB has no flags and no condition codes: "The only per-operation result is
the status field of the response word" (R58). This file holds that result: the status codes
(R113), the response word (R112) and the data each read-back command puts in it. -/

namespace Sys2Proof.Machine

/-- The status codes (R113). -/
def statusCode : Status → Byte
  | .ok => 0x00
  | .outOfRange => 0x01
  | .illegalOpcode => 0x02
  | .reservedField => 0x03
  | .badId => 0x04
  | .busy => 0x05

/-- `{st[7:0], cmd_word[31:24], d[15:0]}` (R112). -/
def responseWord (st : Status) (echo : Byte) (data : Half) : Word := statusCode st ++ echo ++ data

/-- The drive mode `{dir_b[m], dir_a[m]}` (R46). -/
def driveMode (s : State) (m : Motor) : BitVec 2 :=
  BitVec.ofBool (s.dirB.get m) ++ BitVec.ofBool (s.dirA.get m)

/-- `zext_16({dir_b[m], dir_a[m]})` (R209). -/
def driveModeData (s : State) (m : Motor) : Half := (driveMode s m).zeroExtend 16

/-- A speed read back: `sext_16(speed)[15:0]` (R206, R207). -/
def speedData (v : Speed) : Half := v.signExtend 16

/-- The filtered current read back: Q16.8 rounded half up, `fdiv(filt + 128, 256)` (R208). -/
def currentData (f : FiltWord) : Half := halfOfInt (fdiv (intOfFilt f + 128) 256)

/-- `zext_16({test_active[s], (hold_count[s] > 0)})` (R268). -/
def servoStatusData (s : State) (v : Servo) : Half :=
  (BitVec.ofBool (s.testActive.get v) ++ BitVec.ofBool (decide (0 < s.holdCount.get v))).zeroExtend 16

end Sys2Proof.Machine
end

