-- ==== Sys2Proof/Machine/Ops.lean ====
section
/-! DEFINITION. The named operations on the registers: one write per register, the primitives
of R13 (`PwmWrite`, `PinWrite`, `respond`, `ReadSense`), turning a command away (R320, in place of
an exception entry, which DS2-ACB has not), the start of a cycle (R60) and reset (R360). -/

namespace Sys2Proof.Machine

/-- `speed_tgt[m] <- v`. -/
def setSpeedTgt (m : Motor) (v : Speed) (s : State) : State :=
  { s with speedTgt := s.speedTgt.set m v }

/-- `speed_cur[m] <- v`. -/
def setSpeedCur (m : Motor) (v : Speed) (s : State) : State :=
  { s with speedCur := s.speedCur.set m v }

/-- `current_raw[m] <- v`. -/
def setCurrentRaw (m : Motor) (v : Half) (s : State) : State :=
  { s with currentRaw := s.currentRaw.set m v }

/-- `filt[m] <- v`. -/
def setFilt (m : Motor) (v : FiltWord) (s : State) : State :=
  { s with filt := s.filt.set m v }

/-- `ramp_rate <- v`. -/
def setRampRate (v : Half) (s : State) : State := { s with rampRate := v }

/-- `ms_count <- v`. -/
def setMsCount (v : Half) (s : State) : State := { s with msCount := v }

/-- `hold_count[s] <- n`. -/
def setHoldCount (v : Servo) (n : Half) (s : State) : State :=
  { s with holdCount := s.holdCount.set v n }

/-- `test_active[s] <- b`. -/
def setTestActive (v : Servo) (b : Bool) (s : State) : State :=
  { s with testActive := s.testActive.set v b }

/-- `test_index[s] <- k`. -/
def setTestIndex (v : Servo) (k : Half) (s : State) : State :=
  { s with testIndex := s.testIndex.set v k }

/-- `PinWrite(m, a, b, e)`: all three pins of motor `m` together, and the event (R13, R45). -/
def pinWrite (m : Motor) (a b e : Bool) (s : State) : State :=
  { s with
    dirA := s.dirA.set m a
    dirB := s.dirB.set m b
    en := s.en.set m e
    trace := s.trace ++ [.pin m a b e] }

/-- `PwmWrite(c, v)`: channel `c` and its update strobe, and the event (R13, R52). -/
def pwmWrite (c : Channel) (v : Half) (s : State) : State :=
  { s with
    pwmVal := s.pwmVal.set c v
    pwmUpd := s.pwmUpd.set c true
    trace := s.trace ++ [.pwm c v] }

/-- `resp_word <- w`. -/
def setRespWord (w : Word) (s : State) : State := { s with respWord := w }

/-- `resp_valid <- b`. -/
def setRespValid (b : Bool) (s : State) : State := { s with respValid := b }

/-- `respond(st, d)` in a command whose opcode byte is `echo` (R13, R112). -/
def respond (st : Status) (echo : Byte) (data : Half) (s : State) : State :=
  setRespWord (responseWord st echo data) s

/-- A command turned away: no register but the response changes (R320, R327).
This stands where another machine takes an exception: nothing is saved, no mode changes and
no handler runs. -/
def reject (st : Status) (echo : Byte) (s : State) : State := respond st echo 0 s

/-- `ReadSense(m)`: the low `ADC_WIDTH` bits of the reading of motor `m` in this cycle
(R13, R55). -/
def readSense (cfg : Config) (isense : PerMotor Half) (m : Motor) : Nat :=
  (isense.get m).toNat % 2 ^ cfg.adcWidth

/-- What the output ports show; `cmd_ready` is tied to 1 (R56, R93, R313). -/
def outputs (s : State) : Outputs where
  dirA := s.dirA
  dirB := s.dirB
  en := s.en
  pwmVal := s.pwmVal
  pwmUpd := s.pwmUpd
  respValid := s.respValid
  respWord := s.respWord
  cmdReady := true

/-- `pwm_upd[0..3] <- 0; trace <- []`: the start of a cycle's operations (R52, R60). -/
def beginCycle (s : State) : State :=
  { s with pwmUpd := ⟨false, false, false, false⟩, trace := [] }

/-- `ResetState()` (R360), `HbInit` of both motors in it (R146).
The model's own configuration, queued inputs and draw counter are no registers and stay. -/
def resetState (s : State) : State :=
  { s with
    speedTgt := ⟨0, 0⟩
    speedCur := ⟨0, 0⟩
    currentRaw := ⟨0, 0⟩
    filt := ⟨0, 0⟩
    rampRate := 0
    msCount := 0
    holdCount := ⟨0, 0⟩
    testActive := ⟨false, false⟩
    testIndex := ⟨0, 0⟩
    dirA := ⟨false, false⟩
    dirB := ⟨false, false⟩
    en := ⟨false, false⟩
    pwmVal := ⟨0, 0, 0, 0⟩
    pwmUpd := ⟨false, false, false, false⟩
    respValid := false
    respWord := 0
    trace := [] }

end Sys2Proof.Machine
end

