-- ==== Sys2Proof/Machine/Control.lean ====
section
/-! DEFINITION. The one command with no functional effect (44_control.md). -/

namespace Sys2Proof.Machine

/-- NOP (R310): the response only. -/
def execNop (s : State) : Host.Outcome State Fault Refusal :=
  .next (respond .ok Opcode.nop.byte 0 s)

end Sys2Proof.Machine
end

