-- ==== Sys2Proof/Machine/HBridge.lean ====
section
/-! DEFINITION. The H-bridge drive primitives and the current conversion (40_hbridge.md). -/

namespace Sys2Proof.Machine

/-- `HbCoast(m)` (R141, R145). -/
def hbCoast (m : Motor) (s : State) : State :=
  pwmWrite (motorChannel m) 0 (pinWrite m false false false s)

/-- `HbRunCW(m, v)` (R142). -/
def hbRunCW (m : Motor) (v : Int) (s : State) : State :=
  pwmWrite (motorChannel m) (halfOfInt (clamp v 0 100)) (pinWrite m true false true s)

/-- `HbRunCCW(m, v)` (R143). -/
def hbRunCCW (m : Motor) (v : Int) (s : State) : State :=
  pwmWrite (motorChannel m) (halfOfInt (clamp v 0 100)) (pinWrite m false true true s)

/-- `HbBrakeSupply(m)` (R144). -/
def hbBrakeSupply (m : Motor) (s : State) : State :=
  pwmWrite (motorChannel m) 0 (pinWrite m true true true s)

/-- `ApplySpeed(m, v)` (R147). -/
def applySpeed (m : Motor) (v : Int) (s : State) : State :=
  if v > 0 then hbRunCW m v s
  else if v < 0 then hbRunCCW m (-v) s
  else hbCoast m s

/-- `ConvertSense(raw)`, saturating at 0xFFFF (R150). -/
def convertSense (cfg : Config) (raw : Nat) : Half :=
  halfOfInt (min 0xFFFF (fdiv (raw * cfg.senseNum) cfg.senseDen))

end Sys2Proof.Machine
end

