-- ==== Sys2Proof/Machine/Motor.lean ====
section
/-! DEFINITION. The motor commands (41_motor_commands.md): one meaning per opcode. -/

namespace Sys2Proof.Machine

/-- The body MOTOR_FORWARD and MOTOR_BACKWARD share, for the signed speed `v` (R170, R180):
the target always, and in direct mode the current speed and the drive with it. -/
def speedCommand (m : Motor) (v : Int) (s : State) : State :=
  if s.rampRate = 0 then
    applySpeed m v (setSpeedCur m (speedOfInt v) (setSpeedTgt m (speedOfInt v) s))
  else setSpeedTgt m (speedOfInt v) s

/-- `speed_tgt[m] <- 0; speed_cur[m] <- 0` (R190, R195). -/
def stopSpeeds (m : Motor) (s : State) : State := setSpeedCur m 0 (setSpeedTgt m 0 s)

/-- MOTOR_FORWARD (R170). -/
def execMotorForward (m : Motor) (imm : Half) (s : State) : Host.Outcome State Fault Refusal :=
  .next (respond .ok Opcode.motorForward.byte 0 (speedCommand m (mag (zextImm imm)) s))

/-- MOTOR_BACKWARD (R180, R181). -/
def execMotorBackward (m : Motor) (imm : Half) (s : State) : Host.Outcome State Fault Refusal :=
  .next (respond .ok Opcode.motorBackward.byte 0 (speedCommand m (-mag (zextImm imm)) s))

/-- MOTOR_BRAKE (R190). -/
def execMotorBrake (m : Motor) (s : State) : Host.Outcome State Fault Refusal :=
  .next (respond .ok Opcode.motorBrake.byte 0 (hbBrakeSupply m (stopSpeeds m s)))

/-- MOTOR_NEUTRAL (R195). -/
def execMotorNeutral (m : Motor) (s : State) : Host.Outcome State Fault Refusal :=
  .next (respond .ok Opcode.motorNeutral.byte 0 (hbCoast m (stopSpeeds m s)))

/-- MOTOR_SET_RAMP_RATE: the rate, and the tick phase restarts (R200, R201). -/
def execMotorSetRampRate (imm : Half) (s : State) : Host.Outcome State Fault Refusal :=
  .next (respond .ok Opcode.motorSetRampRate.byte 0
    (setMsCount 0 (setRampRate (halfOfInt (zextImm imm)) s)))

/-- MOTOR_GET_RAMP_RATE (R205). -/
def execMotorGetRampRate (s : State) : Host.Outcome State Fault Refusal :=
  .next (respond .ok Opcode.motorGetRampRate.byte s.rampRate s)

/-- MOTOR_GET_SPEED_TARGET (R206). -/
def execMotorGetSpeedTarget (m : Motor) (s : State) : Host.Outcome State Fault Refusal :=
  .next (respond .ok Opcode.motorGetSpeedTarget.byte (speedData (s.speedTgt.get m)) s)

/-- MOTOR_GET_SPEED_CURRENT (R207). -/
def execMotorGetSpeedCurrent (m : Motor) (s : State) : Host.Outcome State Fault Refusal :=
  .next (respond .ok Opcode.motorGetSpeedCurrent.byte (speedData (s.speedCur.get m)) s)

/-- MOTOR_GET_CURRENT (R208). -/
def execMotorGetCurrent (m : Motor) (s : State) : Host.Outcome State Fault Refusal :=
  .next (respond .ok Opcode.motorGetCurrent.byte (currentData (s.filt.get m)) s)

/-- MOTOR_GET_DRIVE_MODE (R209). -/
def execMotorGetDriveMode (m : Motor) (s : State) : Host.Outcome State Fault Refusal :=
  .next (respond .ok Opcode.motorGetDriveMode.byte (driveModeData s m) s)

end Sys2Proof.Machine
end

