-- ==== Sys2Proof/Machine/Servo.lean ====
section
/-! DEFINITION. The servo position driver (43_servo.md): the angle-to-duty map, the settle
hold, the sweep, the strobe step and the three servo commands. -/

namespace Sys2Proof.Machine

/-- The interpolated duty of `ServoDuty` before its clamp, for an angle already inverted
(R261). -/
def interpolate (cal : ServoCal) (a : Int) : Int :=
  if a > 0 then cal.dzero + tdiv ((cal.dmax - cal.dzero) * a) Config.angleLimit
  else if a < 0 then cal.dzero + tdiv ((cal.dzero - cal.dmin) * a) Config.angleLimit
  else cal.dzero

/-- `SERVO_INVERT[s] ? -angle : angle` (R261, R264). -/
def mountedAngle (cfg : Config) (v : Servo) (angle : Int) : Int :=
  if cfg.servoInvert.get v then -angle else angle

/-- `ServoDuty(s, angle)` (R261). -/
def servoDuty (cfg : Config) (v : Servo) (angle : Int) : Half :=
  let cal := cfg.servoCal.get v
  halfOfInt (clamp (interpolate cal (mountedAngle cfg v angle)) cal.dmin cal.dmax)

/-- `ServoApply(s, angle)`: the duty, and the settle hold starts again (R262). -/
def servoApply (v : Servo) (angle : Int) (s : State) : State :=
  setHoldCount v (halfOfInt s.cfg.settleMs)
    (pwmWrite (servoChannel v) (servoDuty s.cfg v angle) s)

/-- `TestAngle(k)`: from -90 up to +90 and back down (R266). -/
def testAngle (cfg : Config) (k : Nat) : Int :=
  if k ≤ cfg.sweepN then -Config.angleLimit + k * cfg.testStepDeg
  else Config.angleLimit - (k - cfg.sweepN) * cfg.testStepDeg

/-- `ServoTestAdvance(s)` (R271). -/
def servoTestAdvance (v : Servo) (s : State) : State :=
  if (s.testIndex.get v).toNat = 2 * s.cfg.sweepN then
    setTestIndex v 0 (setTestActive v false s)
  else
    let k := s.testIndex.get v + 1
    servoApply v (testAngle s.cfg k.toNat) (setTestIndex v k s)

/-- `ServoStrobeStep(s)` (R270). -/
def servoStrobeStep (v : Servo) (s : State) : State :=
  if 0 < s.holdCount.get v then
    let n := s.holdCount.get v - 1
    if n = 0 then pwmWrite (servoChannel v) 0 (setHoldCount v n s)
    else setHoldCount v n s
  else if s.testActive.get v then servoTestAdvance v s
  else s

/-- SERVO_SET (R260): OUT_OF_RANGE before BUSY (R322). -/
def execServoSet (v : Servo) (imm : Half) (s : State) : Host.Outcome State Fault Refusal :=
  if angleInRange (sextImm imm) = false then
    .next (reject .outOfRange Opcode.servoSet.byte s)
  else if s.testActive.get v then .next (reject .busy Opcode.servoSet.byte s)
  else .next (respond .ok Opcode.servoSet.byte 0 (servoApply v (sextImm imm) s))

/-- SERVO_TEST (R265). -/
def execServoTest (v : Servo) (s : State) : Host.Outcome State Fault Refusal :=
  if s.testActive.get v then .next (reject .busy Opcode.servoTest.byte s)
  else
    .next (respond .ok Opcode.servoTest.byte 0
      (servoApply v (testAngle s.cfg 0) (setTestIndex v 0 (setTestActive v true s))))

/-- SERVO_GET_STATUS (R268). -/
def execServoGetStatus (v : Servo) (s : State) : Host.Outcome State Fault Refusal :=
  .next (respond .ok Opcode.servoGetStatus.byte (servoStatusData s v) s)

end Sys2Proof.Machine
end

