-- ==== Sys2Proof/Machine/Dispatch.lean ====
section
/-! DEFINITION. Which meaning each command has: `perform OPMAP[op].rule` of R114. -/

namespace Sys2Proof.Machine

def exec (i : Instr) (s : State) : Host.Outcome State Fault Refusal :=
  match i with
  | .nop => Sys2Proof.Machine.execNop s
  | .motorForward m imm => Sys2Proof.Machine.execMotorForward m imm s
  | .motorBackward m imm => Sys2Proof.Machine.execMotorBackward m imm s
  | .motorBrake m => Sys2Proof.Machine.execMotorBrake m s
  | .motorNeutral m => Sys2Proof.Machine.execMotorNeutral m s
  | .motorSetRampRate imm => Sys2Proof.Machine.execMotorSetRampRate imm s
  | .motorGetRampRate => Sys2Proof.Machine.execMotorGetRampRate s
  | .motorGetSpeedTarget m => Sys2Proof.Machine.execMotorGetSpeedTarget m s
  | .motorGetSpeedCurrent m => Sys2Proof.Machine.execMotorGetSpeedCurrent m s
  | .motorGetCurrent m => Sys2Proof.Machine.execMotorGetCurrent m s
  | .motorGetDriveMode m => Sys2Proof.Machine.execMotorGetDriveMode m s
  | .servoSet v imm => Sys2Proof.Machine.execServoSet v imm s
  | .servoTest v => Sys2Proof.Machine.execServoTest v s
  | .servoGetStatus v => Sys2Proof.Machine.execServoGetStatus v s

end Sys2Proof.Machine
end

