-- ==== Sys2Proof/Machine/Ramp.lean ====
section
/-! DEFINITION. The ramp timebase, the ramp tick and the current filter (42_ramp_tick.md):
the autonomous operations of the motors. -/

namespace Sys2Proof.Machine

/-- `FilterStep(f, x)` over the integers, with coefficient `alphaQ8 / 256` (R226). -/
def filterValue (alphaQ8 : Nat) (f x : Int) : Int :=
  f + fdiv ((x * 256 - f) * alphaQ8 + 127) 256

/-- `FilterStep` on the registers; the result fits 24 bits (R226, R227). -/
def filterStep (cfg : Config) (f : FiltWord) (x : Half) : FiltWord :=
  filtOfInt (filterValue cfg.alphaQ8 (intOfFilt f) (intOfHalf x))

/-- Step 1 of `RampMotor(m)`: sample, convert and filter (R224, R225). -/
def sampleMotor (isense : PerMotor Half) (m : Motor) (s : State) : State :=
  let x := convertSense s.cfg (readSense s.cfg isense m)
  setFilt m (filterStep s.cfg (s.filt.get m) x) (setCurrentRaw m x s)

/-- Steps 2 and 3 of `RampMotor(m)`: one step toward the target, and the drive re-applied;
nothing where the motor has converged (R224, R228). -/
def convergeMotor (m : Motor) (s : State) : State :=
  let cur := (s.speedCur.get m).toInt
  let tgt := (s.speedTgt.get m).toInt
  if cur < tgt then applySpeed m (cur + 1) (setSpeedCur m (speedOfInt (cur + 1)) s)
  else if cur > tgt then applySpeed m (cur - 1) (setSpeedCur m (speedOfInt (cur - 1)) s)
  else s

/-- `RampMotor(m)` (R224). -/
def rampMotor (isense : PerMotor Half) (m : Motor) (s : State) : State :=
  convergeMotor m (sampleMotor isense m s)

/-- `RampTick()`: both motors, in id order (R223). -/
def rampTick (isense : PerMotor Half) (s : State) : State :=
  rampMotor isense .right (rampMotor isense .left s)

/-- The strobe that reaches `ramp_rate` is the one that ticks (R220); never in direct mode (R221). -/
def tickDue (s : State) : Bool :=
  decide (s.rampRate ≠ 0 ∧ s.rampRate.toNat ≤ s.msCount.toNat + 1)

/-- `TimebaseStep()` (R220). -/
def timebaseStep (isense : PerMotor Half) (s : State) : State :=
  if s.rampRate = 0 then setMsCount 0 s
  else if tickDue s then rampTick isense (setMsCount 0 s)
  else setMsCount (s.msCount + 1) s

end Sys2Proof.Machine
end

