-- ==== Sys2Proof/Machine/Cycle.lean ====
section
/-! DEFINITION. One clock cycle (10_state.md R60) and where its inputs come from. -/

namespace Sys2Proof.Machine

/-- `Execute(w)` (R114): the checks, then the command; a word that fails a check changes the
response only, which echoes the opcode as presented (R109 to R112). -/
def execute (w : Word) (s : State) : Host.Outcome State Fault Refusal :=
  match decode w with
  | .ok i => exec i s
  | .error e => .next (reject e.status (fieldsOf w).op s)

/-- The autonomous operations of a cycle with a strobe, in order (R60, R326). -/
def strobePhase (isense : PerMotor Half) (s : State) : State :=
  servoStrobeStep .s1 (servoStrobeStep .s0 (timebaseStep isense s))

/-- The autonomous operations of any cycle without reset: none without a strobe (R60, R89). -/
def autonomousPhase (inp : Inputs) (s : State) : State :=
  if inp.msStrobe then strobePhase inp.isense s else s

/-- The command of a cycle, last, and `resp_valid` (R54, R60). -/
def commandPhase (inp : Inputs) (s : State) : Host.Outcome State Fault Refusal :=
  if inp.cmdValid then
    match execute inp.cmdWord s with
    | .next t => .next (setRespValid true t)
    | .fault r => .fault r
    | .refused r => .refused r
  else .next (setRespValid false s)

/-- `Cycle(inputs)` (R60). -/
def runCycle (inp : Inputs) (s : State) : Host.Outcome State Fault Refusal :=
  if inp.rst then .next (resetState s)
  else commandPhase inp (autonomousPhase inp (beginCycle s))

/-- The inputs of the coming cycle: the next queued ones, or a free draw (R55, R344). -/
def sampledInputs (s : State) : Inputs :=
  match s.inputs with
  | inp :: _ => inp
  | [] => Config.freeInputs s.draws

/-- The state once the coming cycle's inputs are sampled: one queued entry or one draw less. -/
def afterSampling (s : State) : State :=
  match s.inputs with
  | _ :: rest => { s with inputs := rest }
  | [] => { s with draws := s.draws + 1 }

/-- A clock edge: the inputs are sampled and the cycle is performed; a configuration outside
the legal values of R8 is refused (R8, R364). -/
def clockEdge (s : State) : Host.Outcome State Fault Refusal :=
  if s.cfg.WellFormed then runCycle (sampledInputs s) (afterSampling s)
  else .refused .illegalConfiguration

end Sys2Proof.Machine
end

