-- ==== Sys2Proof/Machine/Step.lean ====
section
/-! DEFINITION. One step of the machine is one clock cycle (R60). There is no program counter
and nothing is fetched (R57, R92): a command is run by being presented on the port. -/

namespace Sys2Proof.Machine

/-- One step: one rising edge of `clk` (R60). -/
def step (s : State) : Host.Outcome State Fault Refusal := clockEdge s

/-- `s` with the row's word presented on the command port in the next cycle, in a cycle of its
own: no reset and no strobe (log entry 4). -/
def State.withFetchWord (s : State) (nbits w : Nat) : State :=
  { s with inputs := Inputs.command (tableWord nbits w) :: s.inputs }

end Sys2Proof.Machine
end

