-- ==== Sys2Proof/Machine/Assembler.lean ====
section
/-! DEFINITION. The assembler of 30_encoding.md section 6: one command per line, read
character by character (R115), and the pseudo-instructions (R116). It is no part of the
hardware; it says which word a line of the spec's notation stands for. -/

namespace Sys2Proof.Machine

/-- The name of each opcode in the opcode map (R101). -/
def opcodeName : Opcode → List Char
  | .nop => "NOP".toList
  | .motorForward => "MOTOR_FORWARD".toList
  | .motorBackward => "MOTOR_BACKWARD".toList
  | .motorBrake => "MOTOR_BRAKE".toList
  | .motorNeutral => "MOTOR_NEUTRAL".toList
  | .motorSetRampRate => "MOTOR_SET_RAMP_RATE".toList
  | .motorGetRampRate => "MOTOR_GET_RAMP_RATE".toList
  | .motorGetSpeedTarget => "MOTOR_GET_SPEED_TARGET".toList
  | .motorGetSpeedCurrent => "MOTOR_GET_SPEED_CURRENT".toList
  | .motorGetCurrent => "MOTOR_GET_CURRENT".toList
  | .motorGetDriveMode => "MOTOR_GET_DRIVE_MODE".toList
  | .servoSet => "SERVO_SET".toList
  | .servoTest => "SERVO_TEST".toList
  | .servoGetStatus => "SERVO_GET_STATUS".toList

/-- Every opcode of the map (R101). -/
def allOpcodes : List Opcode :=
  [.nop, .motorForward, .motorBackward, .motorBrake, .motorNeutral, .motorSetRampRate,
    .motorGetRampRate, .motorGetSpeedTarget, .motorGetSpeedCurrent, .motorGetCurrent,
    .motorGetDriveMode, .servoSet, .servoTest, .servoGetStatus]

/-- The text with its first underscore replaced by a full stop (R115). -/
def dotFirstUnderscore : List Char → List Char
  | [] => []
  | c :: cs => if c = '_' then '.' :: cs else c :: dotFirstUnderscore cs

/-- The mnemonic of an opcode: its lower-case name with the first underscore replaced (R115). -/
def asmMnemonic (op : Opcode) : List Char := dotFirstUnderscore ((opcodeName op).map Char.toLower)

/-- The opcode a mnemonic stands for. -/
def opcodeOfMnemonic (t : List Char) : Option Opcode :=
  allOpcodes.find? fun op => asmMnemonic op = t

/-- The text without the spaces before it. -/
def dropSpaces : List Char → List Char
  | [] => []
  | c :: cs => if c = ' ' then dropSpaces cs else c :: cs

/-- The text without the spaces around it. -/
def trimSpaces (t : List Char) : List Char := (dropSpaces (dropSpaces t).reverse).reverse

/-- The text before the first `sep` and the text after it. -/
def splitFirst (sep : Char) : List Char → List Char × List Char
  | [] => ([], [])
  | c :: cs =>
    if c = sep then ([], cs)
    else ((c :: (splitFirst sep cs).1), (splitFirst sep cs).2)

/-- The pieces of a text between commas; `piece` is the piece read so far, backwards. -/
def splitCommas (piece : List Char) : List Char → List (List Char)
  | [] => [piece.reverse]
  | c :: cs => if c = ',' then piece.reverse :: splitCommas [] cs else splitCommas (c :: piece) cs

/-- The operands of a line, each without spaces around it; none in an empty text (R115). -/
def operandsOf (t : List Char) : List (List Char) :=
  if trimSpaces t = [] then [] else (splitCommas [] t).map trimSpaces

/-- The value of a digit in base `base` (10 or 16), upper or lower case. -/
def digitValue (base : Nat) (c : Char) : Option Nat :=
  let n := c.toNat
  let v :=
    if 48 ≤ n ∧ n ≤ 57 then some (n - 48)
    else if 65 ≤ n ∧ n ≤ 70 then some (n - 55)
    else if 97 ≤ n ∧ n ≤ 102 then some (n - 87)
    else none
  match v with
  | some d => if d < base then some d else none
  | none => none

/-- The value of a numeral in base `base`, `acc` read already. -/
def numeralFrom (base acc : Nat) : List Char → Option Nat
  | [] => some acc
  | c :: cs =>
    match digitValue base c with
    | some d => numeralFrom base (acc * base + d) cs
    | none => none

/-- A numeral: at least one digit. -/
def numeral (base : Nat) (t : List Char) : Option Nat :=
  if t = [] then none else numeralFrom base 0 t

/-- A decimal numeral with an optional leading minus sign (R115: an angle may have one). -/
def signedNumeral : List Char → Option Int
  | '-' :: cs => (numeral 10 cs).map fun n => -(Int.ofNat n)
  | cs => (numeral 10 cs).map Int.ofNat

/-- A field of 8 bits: an id numeral is 0..255 (R116). -/
def idOfNat (n : Nat) : Option Byte := if n ≤ 255 then some (BitVec.ofNat 8 n) else none

/-- A motor id: LEFT, RIGHT or a numeral (R115). -/
def motorIdOperand (t : List Char) : Option Byte :=
  if t = "LEFT".toList then some 0
  else if t = "RIGHT".toList then some 1
  else (numeral 10 t).bind idOfNat

/-- A servo id: S0, S1 or a numeral (R115). -/
def servoIdOperand (t : List Char) : Option Byte :=
  if t = "S0".toList then some 0
  else if t = "S1".toList then some 1
  else (numeral 10 t).bind idOfNat

/-- An unsigned 16-bit numeral, 0..65535 (R116). -/
def u16OfNat (n : Nat) : Option Half := if n ≤ 65535 then some (BitVec.ofNat 16 n) else none

/-- A speed or rate operand (R115, R116). -/
def u16Operand (t : List Char) : Option Half := (numeral 10 t).bind u16OfNat

/-- A signed 16-bit value, -32768..32767 (R116). -/
def s16OfInt (n : Int) : Option Half :=
  if -32768 ≤ n ∧ n ≤ 32767 then some (BitVec.ofInt 16 n) else none

/-- An angle operand (R115, R116). -/
def s16Operand (t : List Char) : Option Half := (signedNumeral t).bind s16OfInt

/-- `{op, id, imm}` where both operands were readable. -/
def wordFrom (op : Opcode) (id : Option Byte) (imm : Option Half) : Option Word :=
  match id, imm with
  | some i, some k => some (packWord op.byte i k)
  | _, _ => none

/-- A command's word from its operands, by sub-format (the forms of R115). -/
def assembleCommand (op : Opcode) (args : List (List Char)) : Option Word :=
  match op.subFormat, args with
  | .none, [] => wordFrom op (some 0) (some 0)
  | .motor, [m] => wordFrom op (motorIdOperand m) (some 0)
  | .motorSpeed, [m, u] => wordFrom op (motorIdOperand m) (u16Operand u)
  | .rate, [u] => wordFrom op (some 0) (u16Operand u)
  | .servo, [v] => wordFrom op (servoIdOperand v) (some 0)
  | .servoAngle, [v, a] => wordFrom op (servoIdOperand v) (s16Operand a)
  | _, _ => none

/-- `motor.speed <mid>, <v>` for a signed `v` (R116): forward for `v >= 0`, else backward. -/
def assembleSpeed (m : Option Byte) (v : Int) : Option Word :=
  if 0 ≤ v then wordFrom .motorForward m (u16OfNat v.toNat)
  else wordFrom .motorBackward m (u16OfNat (-v).toNat)

/-- The pseudo-instructions and their expansions (R116); `none` for any other name. -/
def assemblePseudo (name : List Char) (args : List (List Char)) : Option Word :=
  if name = "motor.speed".toList then
    match args with
    | [m, v] => (signedNumeral v).bind (assembleSpeed (motorIdOperand m))
    | _ => none
  else if name = "motor.stop".toList then assembleCommand .motorBrake args
  else if name = "motor.coast".toList then assembleCommand .motorNeutral args
  else if name = "motor.direct".toList then
    match args with
    | [] => wordFrom .motorSetRampRate (some 0) (some 0)
    | _ => none
  else none

/-- `.word 0xXXXXXXXX`, a raw word of eight hexadecimal digits (R115). -/
def rawWordOperand : List Char → Option Word
  | '0' :: 'x' :: ds =>
    if ds.length = 8 then (numeral 16 ds).map (BitVec.ofNat 32) else none
  | _ => none

/-- One line of the assembler: the word it emits, or `none` where the assembler refuses it. -/
def assembleChars (line : List Char) : Option Word :=
  let parts := splitFirst ' ' (trimSpaces line)
  let args := operandsOf parts.2
  if parts.1 = ".word".toList then
    match args with
    | [w] => rawWordOperand w
    | _ => none
  else
    match opcodeOfMnemonic parts.1 with
    | some op => assembleCommand op args
    | none => assemblePseudo parts.1 args

/-- One line of the assembler, as a string (R115, R116). -/
def assembleLine (line : String) : Option Word := assembleChars line.toList

end Sys2Proof.Machine
end

