-- ==== Sys2Proof/Safety.lean ====
section
/-! DEFINITION. What counts as a sound state of DS2-ACB (the invariants the spec's prose
states), and the words claims use: drive patterns, the events of one cycle, a cycle's command,
runs over a schedule of inputs, and what two runs may be compared on. -/

namespace Sys2Proof.Machine

/-! ### Drive patterns (R140) -/

/-- COAST: all pins low, duty 0 (R140, R141). -/
abbrev Coasts (s : State) (m : Motor) : Prop :=
  s.dirA.get m = false ∧ s.dirB.get m = false ∧ s.en.get m = false ∧
    s.pwmVal.get (motorChannel m) = 0

/-- CW with duty `v` (R140, R142). -/
abbrev DrivesCW (s : State) (m : Motor) (v : Int) : Prop :=
  s.dirA.get m = true ∧ s.dirB.get m = false ∧ s.en.get m = true ∧
    intOfHalf (s.pwmVal.get (motorChannel m)) = v

/-- CCW with duty `v` (R140, R143). -/
abbrev DrivesCCW (s : State) (m : Motor) (v : Int) : Prop :=
  s.dirA.get m = false ∧ s.dirB.get m = true ∧ s.en.get m = true ∧
    intOfHalf (s.pwmVal.get (motorChannel m)) = v

/-- BRAKE: all pins high, duty 0 (R140, R144). -/
abbrev Brakes (s : State) (m : Motor) : Prop :=
  s.dirA.get m = true ∧ s.dirB.get m = true ∧ s.en.get m = true ∧
    s.pwmVal.get (motorChannel m) = 0

/-- The current speed of motor `m` as a number (R32). -/
def curSpeed (s : State) (m : Motor) : Int := (s.speedCur.get m).toInt

/-- The target speed of motor `m` as a number (R31). -/
def tgtSpeed (s : State) (m : Motor) : Int := (s.speedTgt.get m).toInt

/-! ### The invariants the spec states, each closed under a step on its own -/

/-- R33: both speeds of every motor are in -100..100. -/
abbrev SpeedsInRange (s : State) : Prop :=
  ∀ m, (-100 ≤ tgtSpeed s m ∧ tgtSpeed s m ≤ 100) ∧ (-100 ≤ curSpeed s m ∧ curSpeed s m ≤ 100)

/-- R38: the tick phase is below the ramp rate, and 0 in direct mode. -/
abbrev PhaseInRange (s : State) : Prop :=
  if s.rampRate = 0 then s.msCount = 0 else s.msCount < s.rampRate

/-- R30, R227: the filter state is in 0..0xFFFF00. -/
abbrev FilterInRange (s : State) : Prop := ∀ m, (s.filt.get m).toNat ≤ 0xFFFF00

/-- R30: a hold counts down from `SERVO_SETTLE_MS`. -/
abbrev HoldInRange (s : State) : Prop := ∀ v, (s.holdCount.get v).toNat ≤ s.cfg.settleMs

/-- R41: the sweep index is in 0..2N, and 0 while no sweep runs. -/
abbrev SweepInRange (s : State) : Prop :=
  ∀ v, (s.testIndex.get v).toNat ≤ 2 * s.cfg.sweepN ∧
    (s.testActive.get v = false → s.testIndex.get v = 0)

/-- R46, R51, R152: each motor's pins hold one of the four patterns, with that pattern's duty. -/
abbrev DrivePatternLegal (s : State) : Prop :=
  ∀ m, Coasts s m ∨ (∃ d, 0 ≤ d ∧ d ≤ 100 ∧ DrivesCW s m d) ∨
    (∃ d, 0 ≤ d ∧ d ≤ 100 ∧ DrivesCCW s m d) ∨ Brakes s m

/-! ### Invariants that join registers -/

/-- The drive state is the tick's mapping of `speed_cur`, except that a motor at speed 0 may
brake (92_eei_decisions.md D8, DEDUCED from R147, R190 and R224; log entry 6). -/
abbrev DriveFollowsSpeed (s : State) : Prop :=
  ∀ m, (0 < curSpeed s m → DrivesCW s m (curSpeed s m)) ∧
    (curSpeed s m < 0 → DrivesCCW s m (-curSpeed s m)) ∧
    (curSpeed s m = 0 → Coasts s m ∨ Brakes s m)

/-- A servo's channel is 0 when no hold runs, and within the calibration while one does
(DEDUCED from R262, R270 and R272; log entry 6). -/
abbrev ServoChannelFollowsHold (s : State) : Prop :=
  ∀ v, (s.holdCount.get v = 0 → s.pwmVal.get (servoChannel v) = 0) ∧
    (s.holdCount.get v ≠ 0 →
      (s.cfg.servoCal.get v).dmin ≤ (s.pwmVal.get (servoChannel v)).toNat ∧
        (s.pwmVal.get (servoChannel v)).toNat ≤ (s.cfg.servoCal.get v).dmax)

/-- The status field of a response word (R112). -/
def responseStatus (w : Word) : Byte := w.extractLsb' 24 8

/-- The opcode echo of a response word (R112). -/
def responseEcho (w : Word) : Byte := w.extractLsb' 16 8

/-- The data field of a response word (R112). -/
def responseData (w : Word) : Half := w.extractLsb' 0 16

/-- R113: codes 0x06..0xFF are never produced. -/
abbrev StatusLegal (s : State) : Prop := (responseStatus s.respWord).toNat ≤ 5

/-- A sound state: every invariant above, under a legal configuration. -/
structure SoundState (s : State) : Prop where
  configLegal : s.cfg.WellFormed
  speeds : SpeedsInRange s
  phase : PhaseInRange s
  filter : FilterInRange s
  hold : HoldInRange s
  sweep : SweepInRange s
  drive : DriveFollowsSpeed s
  servoChannel : ServoChannelFollowsHold s
  status : StatusLegal s

/-! ### The trace of a cycle (R53) -/

/-- The value of the last write to channel `c` in a list of events, if there is one. -/
def lastPwm (c : Channel) : List Event → Option Half
  | [] => none
  | .pwm c' v :: rest =>
    match lastPwm c rest with
    | some w => some w
    | none => if c' = c then some v else none
  | .pin _ _ _ _ :: rest => lastPwm c rest

/-- The events of motor `m`: its pin writes, and the writes to its channel. -/
def eventOfMotor (m : Motor) : Event → Bool
  | .pwm c _ => decide (c = motorChannel m)
  | .pin m' _ _ _ => decide (m' = m)

/-- The events of channel `c`: the writes to it (R13, R52). -/
def eventOfChannel (c : Channel) : Event → Bool
  | .pwm c' _ => decide (c' = c)
  | .pin _ _ _ _ => false

/-- The events `ApplySpeed(m, v)` appends, pins before duty (R141 to R148). -/
def applyEvents (m : Motor) (v : Int) : List Event :=
  if v > 0 then [.pin m true false true, .pwm (motorChannel m) (halfOfInt v)]
  else if v < 0 then [.pin m false true true, .pwm (motorChannel m) (halfOfInt (-v))]
  else [.pin m false false false, .pwm (motorChannel m) 0]

/-! ### Commands and schedules -/

/-- The command a cycle performs, if it performs one: no reset, a command presented, and
the dispatch checks passed (R60, R114). -/
def performed (inp : Inputs) : Option Instr :=
  if inp.rst = false ∧ inp.cmdValid = true then
    match decode inp.cmdWord with
    | .ok i => some i
    | .error _ => none
  else none

/-- The commands whose only effect is the response (R82, R210). -/
def isReadBack : Instr → Bool
  | .motorGetRampRate => true
  | .motorGetSpeedTarget _ => true
  | .motorGetSpeedCurrent _ => true
  | .motorGetCurrent _ => true
  | .motorGetDriveMode _ => true
  | .servoGetStatus _ => true
  | .nop => false
  | .motorForward _ _ => false
  | .motorBackward _ _ => false
  | .motorBrake _ => false
  | .motorNeutral _ => false
  | .motorSetRampRate _ => false
  | .servoSet _ _ => false
  | .servoTest _ => false

/-- The speed commands for motor `m`: those that write `speed_tgt[m]` (R30). -/
def setsTarget (m : Motor) : Instr → Bool
  | .motorForward m' _ => decide (m' = m)
  | .motorBackward m' _ => decide (m' = m)
  | .motorBrake m' => decide (m' = m)
  | .motorNeutral m' => decide (m' = m)
  | .nop => false
  | .motorSetRampRate _ => false
  | .motorGetRampRate => false
  | .motorGetSpeedTarget _ => false
  | .motorGetSpeedCurrent _ => false
  | .motorGetCurrent _ => false
  | .motorGetDriveMode _ => false
  | .servoSet _ _ => false
  | .servoTest _ => false
  | .servoGetStatus _ => false

/-- MOTOR_SET_RAMP_RATE, the only command that writes `ramp_rate` (R37). -/
def setsRampRate : Instr → Bool
  | .motorSetRampRate _ => true
  | .nop => false
  | .motorForward _ _ => false
  | .motorBackward _ _ => false
  | .motorBrake _ => false
  | .motorNeutral _ => false
  | .motorGetRampRate => false
  | .motorGetSpeedTarget _ => false
  | .motorGetSpeedCurrent _ => false
  | .motorGetCurrent _ => false
  | .motorGetDriveMode _ => false
  | .servoSet _ _ => false
  | .servoTest _ => false
  | .servoGetStatus _ => false

/-- SERVO_SET and SERVO_TEST for servo `v`: the commands that may write its channel (R50). -/
def drivesServo (v : Servo) : Instr → Bool
  | .servoSet v' _ => decide (v' = v)
  | .servoTest v' => decide (v' = v)
  | .nop => false
  | .motorForward _ _ => false
  | .motorBackward _ _ => false
  | .motorBrake _ => false
  | .motorNeutral _ => false
  | .motorSetRampRate _ => false
  | .motorGetRampRate => false
  | .motorGetSpeedTarget _ => false
  | .motorGetSpeedCurrent _ => false
  | .motorGetCurrent _ => false
  | .motorGetDriveMode _ => false
  | .servoGetStatus _ => false

/-- Once the coming cycle's strobe, if it has one, has been performed, no sweep of servo `v` runs:
none runs now, or the strobe ends it (R270, R271). -/
abbrev SweepOver (s : State) (v : Servo) : Prop :=
  s.testActive.get v = false ∨
    ((sampledInputs s).msStrobe = true ∧ s.holdCount.get v = 0 ∧
      (s.testIndex.get v).toNat = 2 * s.cfg.sweepN)

/-- The strobes of a schedule of cycles. -/
def strobeCount (sched : List Inputs) : Nat := (sched.filter fun inp => inp.msStrobe).length

/-- A run of ramp ticks, one for each given pair of current-sense readings. -/
def rampTicks : List (PerMotor Half) → State → State
  | [], s => s
  | x :: xs, s => rampTicks xs (rampTick x s)

/-! ### What two states may be compared on -/

/-- The two states agree on everything the operations on motor `m` read and write, the
configuration and the tick phase among it (R36, R234). -/
abbrev AgreeOnMotor (m : Motor) (s t : State) : Prop :=
  s.speedTgt.get m = t.speedTgt.get m ∧ s.speedCur.get m = t.speedCur.get m ∧
  s.currentRaw.get m = t.currentRaw.get m ∧ s.filt.get m = t.filt.get m ∧
  s.dirA.get m = t.dirA.get m ∧ s.dirB.get m = t.dirB.get m ∧ s.en.get m = t.en.get m ∧
  s.pwmVal.get (motorChannel m) = t.pwmVal.get (motorChannel m) ∧
  s.pwmUpd.get (motorChannel m) = t.pwmUpd.get (motorChannel m) ∧
  s.rampRate = t.rampRate ∧ s.msCount = t.msCount ∧ s.cfg = t.cfg ∧
  s.trace.filter (eventOfMotor m) = t.trace.filter (eventOfMotor m)

/-- Two states have the same motor state: every motor register, pin and motor channel, and the
ramp timebase (R273). -/
abbrev SameMotorState (s t : State) : Prop :=
  s.speedTgt = t.speedTgt ∧ s.speedCur = t.speedCur ∧ s.currentRaw = t.currentRaw ∧
  s.filt = t.filt ∧ s.dirA = t.dirA ∧ s.dirB = t.dirB ∧ s.en = t.en ∧
  s.rampRate = t.rampRate ∧ s.msCount = t.msCount ∧
  (∀ m, s.pwmVal.get (motorChannel m) = t.pwmVal.get (motorChannel m) ∧
    s.pwmUpd.get (motorChannel m) = t.pwmUpd.get (motorChannel m))

/-- Two states have the same state of servo `v`, its channel included (R273). -/
abbrev SameServoState (v : Servo) (s t : State) : Prop :=
  s.holdCount.get v = t.holdCount.get v ∧ s.testActive.get v = t.testActive.get v ∧
  s.testIndex.get v = t.testIndex.get v ∧
  s.pwmVal.get (servoChannel v) = t.pwmVal.get (servoChannel v) ∧
  s.pwmUpd.get (servoChannel v) = t.pwmUpd.get (servoChannel v)

/-- Two states have the same channel `c`: its value, its update strobe and, in order, its events in
the trace (R50, R52). -/
abbrev SameChannel (c : Channel) (s t : State) : Prop :=
  s.pwmVal.get c = t.pwmVal.get c ∧ s.pwmUpd.get c = t.pwmUpd.get c ∧
  s.trace.filter (eventOfChannel c) = t.trace.filter (eventOfChannel c)

/-- A state without its telemetry and without what the environment will present. -/
def withoutTelemetry (s : State) : State :=
  { s with currentRaw := ⟨0, 0⟩, filt := ⟨0, 0⟩, respWord := 0, inputs := [], draws := 0 }

/-- The same cycle with other current-sense readings. -/
def withoutSense (inp : Inputs) : Inputs := { inp with isense := ⟨0, 0⟩ }

end Sys2Proof.Machine
end

