-- ==== Sys2Proof/Certificates/Slice0/Obligations.lean ====
section
/-! DEFINITION. The statements about DS2-ACB for the provers. They come from the numbered rules
of spec/; each docstring names the rule. A statement about `step` is about every configuration
the spec gives a meaning to: no statement rests on the configuration of `State.reset`. -/

section

open Sys2Proof Sys2Proof.Machine

/-! ### Encoding (30_encoding.md) -/

/-- R117: the worked encodings: what each line assembles to, encoded and decoded. -/
def Obligations.WorkedEncodings : Prop :=
  (assembleLine "motor.forward LEFT, 40" = some 0x01000028 ∧
    encode (.motorForward .left 40) = 0x01000028 ∧
    decode 0x01000028 = .ok (.motorForward .left 40)) ∧
  (assembleLine "motor.backward RIGHT, 50" = some 0x02010032 ∧
    encode (.motorBackward .right 50) = 0x02010032 ∧
    decode 0x02010032 = .ok (.motorBackward .right 50)) ∧
  (assembleLine "motor.set_ramp_rate 10" = some 0x0500000A ∧
    encode (.motorSetRampRate 10) = 0x0500000A ∧ decode 0x0500000A = .ok (.motorSetRampRate 10)) ∧
  (assembleLine "servo.set S0, -90" = some 0x1000FFA6 ∧
    encode (.servoSet .s0 (BitVec.ofInt 16 (-90))) = 0x1000FFA6 ∧
    decode 0x1000FFA6 = .ok (.servoSet .s0 (BitVec.ofInt 16 (-90)))) ∧
  (assembleLine "servo.set S1, 91" = some 0x1001005B ∧
    encode (.servoSet .s1 91) = 0x1001005B ∧ decode 0x1001005B = .ok (.servoSet .s1 91)) ∧
  (assembleLine "motor.brake LEFT" = some 0x03000000 ∧
    encode (.motorBrake .left) = 0x03000000 ∧ decode 0x03000000 = .ok (.motorBrake .left))

/-- R115, R116: lines of the assembler and the words they emit, and numerals it refuses. -/
def Obligations.AssemblerLines : Prop :=
  assembleLine "nop" = some 0x00000000 ∧
  assembleLine "motor.forward LEFT, 40" = some 0x01000028 ∧
  assembleLine "motor.backward RIGHT, 50" = some 0x02010032 ∧
  assembleLine "motor.brake 1" = some 0x03010000 ∧
  assembleLine "motor.neutral RIGHT" = some 0x04010000 ∧
  assembleLine "motor.set_ramp_rate 10" = some 0x0500000A ∧
  assembleLine "motor.get_ramp_rate" = some 0x06000000 ∧
  assembleLine "motor.get_speed_target LEFT" = some 0x08000000 ∧
  assembleLine "motor.get_speed_current RIGHT" = some 0x09010000 ∧
  assembleLine "motor.get_current LEFT" = some 0x0A000000 ∧
  assembleLine "motor.get_drive_mode LEFT" = some 0x0B000000 ∧
  assembleLine "servo.set S1, -30" = some 0x1001FFE2 ∧
  assembleLine "servo.test S1" = some 0x11010000 ∧
  assembleLine "servo.get_status S0" = some 0x12000000 ∧
  assembleLine ".word 0xFF123456" = some 0xFF123456 ∧
  assembleLine "motor.speed LEFT, 40" = assembleLine "motor.forward LEFT, 40" ∧
  assembleLine "motor.speed LEFT, -40" = assembleLine "motor.backward LEFT, 40" ∧
  assembleLine "motor.stop RIGHT" = assembleLine "motor.brake RIGHT" ∧
  assembleLine "motor.coast LEFT" = assembleLine "motor.neutral LEFT" ∧
  assembleLine "motor.direct" = assembleLine "motor.set_ramp_rate 0" ∧
  assembleLine "motor.forward LEFT, 65536" = none ∧
  assembleLine "servo.set S0, -32769" = none ∧
  assembleLine "motor.brake 256" = none

/-- R100 to R108: the decoder reads back every command the encoder writes, each operand at
every value, and from the bytes of a link too (R83), with the bytes after it left alone. -/
def Obligations.DecodeEncodeAgree : Prop :=
  ∀ i : Instr, decode (encode i) = .ok i ∧
    ∀ rest, decodeLinkBytes (linkBytesOf (encode i) ++ rest) = .ok (i, rest)

/-- R100 to R108: a word that decodes is the encoding of what it decodes to, so no two words
are one command and no bit of a command word is ignored. -/
def Obligations.EncodeDecodeAgree : Prop :=
  ∀ (w : Word) (i : Instr), decode w = .ok i → encode i = w

/-- R109, R110, R111, R114, R322: which words are turned away, and with which cause, in the
order of the checks; the reserved opcodes are 0x07, 0x0C to 0x0F and 0x13 to 0xFF. -/
def Obligations.DispatchChecksInOrder : Prop :=
  ∀ w : Word,
    (decode w = .error .illegalOpcode ↔
      (fieldsOf w).op = 0x07 ∨ (0x0C ≤ (fieldsOf w).op.toNat ∧ (fieldsOf w).op.toNat ≤ 0x0F) ∨
        0x13 ≤ (fieldsOf w).op.toNat) ∧
    (∀ op, Opcode.ofByte (fieldsOf w).op = some op →
      ((∃ i, decode w = .ok i) ↔ (fieldsOf w).WellFormed op.subFormat) ∧
      (decode w = .error .reservedField ↔
        ¬ ((fieldsOf w).IdUnusedIsZero op.subFormat ∧ (fieldsOf w).ImmUnusedIsZero op.subFormat)) ∧
      (decode w = .error .badId ↔
        (fieldsOf w).IdUnusedIsZero op.subFormat ∧ (fieldsOf w).ImmUnusedIsZero op.subFormat ∧
          ¬ (fieldsOf w).IdExists op.subFormat))

/-! ### The result of each command -/

/-- R310: NOP, its one encoding, its response, and that it leaves the cycle's autonomous
operations as they are. -/
def Obligations.NopOnlyResponds : Prop :=
  encode .nop = 0x00000000 ∧
  (∀ (id : Byte) (imm : Half) (s : State), id ≠ 0 ∨ imm ≠ 0 →
    decode (packWord 0x00 id imm) = .error .reservedField ∧
    execute (packWord 0x00 id imm) s = .next { s with respWord := 0x03000000 }) ∧
  (∀ s : State, exec .nop s = .next { s with respWord := 0x00000000 }) ∧
  (∀ (inp : Inputs) (s : State), inp.rst = false → inp.cmdValid = true → inp.cmdWord = 0x00000000 →
    runCycle inp s = .next
      { autonomousPhase inp (beginCycle s) with respWord := 0x00000000, respValid := true })

/-- R170: MOTOR_FORWARD, in direct mode (COAST for speed 0, else CW) and in ramped mode. -/
def Obligations.MotorForwardResult : Prop :=
  ∀ (m : Motor) (imm : Half) (s : State),
    encode (.motorForward m imm) = packWord 0x01 m.idField imm ∧
    exec (.motorForward m imm) s = .next
      (if s.rampRate ≠ 0 then
        { s with
          speedTgt := s.speedTgt.set m (BitVec.ofNat 8 (min imm.toNat 100))
          respWord := 0x00010000 }
      else if imm = 0 then
        { s with
          speedTgt := s.speedTgt.set m 0
          speedCur := s.speedCur.set m 0
          dirA := s.dirA.set m false
          dirB := s.dirB.set m false
          en := s.en.set m false
          pwmVal := s.pwmVal.set (motorChannel m) 0
          pwmUpd := s.pwmUpd.set (motorChannel m) true
          trace := s.trace ++ [.pin m false false false, .pwm (motorChannel m) 0]
          respWord := 0x00010000 }
      else
        { s with
          speedTgt := s.speedTgt.set m (BitVec.ofNat 8 (min imm.toNat 100))
          speedCur := s.speedCur.set m (BitVec.ofNat 8 (min imm.toNat 100))
          dirA := s.dirA.set m true
          dirB := s.dirB.set m false
          en := s.en.set m true
          pwmVal := s.pwmVal.set (motorChannel m) (BitVec.ofNat 16 (min imm.toNat 100))
          pwmUpd := s.pwmUpd.set (motorChannel m) true
          trace := s.trace ++ [.pin m true false true,
            .pwm (motorChannel m) (BitVec.ofNat 16 (min imm.toNat 100))]
          respWord := 0x00010000 })

/-- R180: MOTOR_BACKWARD, in direct mode (COAST for speed 0, else CCW) and in ramped mode. -/
def Obligations.MotorBackwardResult : Prop :=
  ∀ (m : Motor) (imm : Half) (s : State),
    encode (.motorBackward m imm) = packWord 0x02 m.idField imm ∧
    exec (.motorBackward m imm) s = .next
      (if s.rampRate ≠ 0 then
        { s with
          speedTgt := s.speedTgt.set m (-BitVec.ofNat 8 (min imm.toNat 100))
          respWord := 0x00020000 }
      else if imm = 0 then
        { s with
          speedTgt := s.speedTgt.set m 0
          speedCur := s.speedCur.set m 0
          dirA := s.dirA.set m false
          dirB := s.dirB.set m false
          en := s.en.set m false
          pwmVal := s.pwmVal.set (motorChannel m) 0
          pwmUpd := s.pwmUpd.set (motorChannel m) true
          trace := s.trace ++ [.pin m false false false, .pwm (motorChannel m) 0]
          respWord := 0x00020000 }
      else
        { s with
          speedTgt := s.speedTgt.set m (-BitVec.ofNat 8 (min imm.toNat 100))
          speedCur := s.speedCur.set m (-BitVec.ofNat 8 (min imm.toNat 100))
          dirA := s.dirA.set m false
          dirB := s.dirB.set m true
          en := s.en.set m true
          pwmVal := s.pwmVal.set (motorChannel m) (BitVec.ofNat 16 (min imm.toNat 100))
          pwmUpd := s.pwmUpd.set (motorChannel m) true
          trace := s.trace ++ [.pin m false true true,
            .pwm (motorChannel m) (BitVec.ofNat 16 (min imm.toNat 100))]
          respWord := 0x00020000 })

/-- R171, R181: every speed operand runs with status OK, and the target is the operand clamped
to 0..100, negated for MOTOR_BACKWARD. -/
def Obligations.SpeedOperandClamped : Prop :=
  ∀ (m : Motor) (imm : Half) (s : State),
    (∃ t, exec (.motorForward m imm) s = .next t ∧ responseStatus t.respWord = 0 ∧
      tgtSpeed t m = min (imm.toNat : Int) 100 ∧ 0 ≤ tgtSpeed t m ∧ tgtSpeed t m ≤ 100) ∧
    (∃ t, exec (.motorBackward m imm) s = .next t ∧ responseStatus t.respWord = 0 ∧
      tgtSpeed t m = -min (imm.toNat : Int) 100 ∧ -100 ≤ tgtSpeed t m ∧ tgtSpeed t m ≤ 0)

/-- R190: MOTOR_BRAKE in either mode; a second one leaves the same registers; a tick right after
it keeps BRAKE on the pins and writes nothing for the motor; and every later step without reset
and without a speed, brake or neutral command for the motor does too, so BRAKE stays until one. -/
def Obligations.MotorBrakeResult : Prop :=
  (∀ (m : Motor) (s : State),
    encode (.motorBrake m) = packWord 0x03 m.idField 0 ∧
    ∃ t, exec (.motorBrake m) s = .next t ∧
      t = { s with
        speedTgt := s.speedTgt.set m 0
        speedCur := s.speedCur.set m 0
        dirA := s.dirA.set m true
        dirB := s.dirB.set m true
        en := s.en.set m true
        pwmVal := s.pwmVal.set (motorChannel m) 0
        pwmUpd := s.pwmUpd.set (motorChannel m) true
        trace := s.trace ++ [.pin m true true true, .pwm (motorChannel m) 0]
        respWord := 0x00030000 } ∧
      exec (.motorBrake m) t = .next
        { t with trace := t.trace ++ [.pin m true true true, .pwm (motorChannel m) 0] } ∧
      Brakes t m ∧ curSpeed t m = 0 ∧ tgtSpeed t m = 0 ∧
      ∀ isense, Brakes (rampTick isense t) m ∧
        (rampTick isense t).trace.filter (eventOfMotor m) = t.trace.filter (eventOfMotor m)) ∧
  (∀ (s t : State) (m : Motor), Brakes s m → curSpeed s m = 0 → tgtSpeed s m = 0 →
    step s = .next t → (sampledInputs s).rst = false →
    (∀ i, performed (sampledInputs s) = some i → setsTarget m i = false) →
    Brakes t m ∧ curSpeed t m = 0 ∧ tgtSpeed t m = 0 ∧
      t.trace.filter (eventOfMotor m) = [])

/-- R195: MOTOR_NEUTRAL in either mode. -/
def Obligations.MotorNeutralResult : Prop :=
  ∀ (m : Motor) (s : State),
    encode (.motorNeutral m) = packWord 0x04 m.idField 0 ∧
    exec (.motorNeutral m) s = .next
      { s with
        speedTgt := s.speedTgt.set m 0
        speedCur := s.speedCur.set m 0
        dirA := s.dirA.set m false
        dirB := s.dirB.set m false
        en := s.en.set m false
        pwmVal := s.pwmVal.set (motorChannel m) 0
        pwmUpd := s.pwmUpd.set (motorChannel m) true
        trace := s.trace ++ [.pin m false false false, .pwm (motorChannel m) 0]
        respWord := 0x00040000 }

/-- R200, R201: MOTOR_SET_RAMP_RATE writes the rate and the tick phase; no speed and no pin
moves, at a switch to direct mode neither. -/
def Obligations.MotorSetRampRateResult : Prop :=
  ∀ (imm : Half) (s : State),
    encode (.motorSetRampRate imm) = packWord 0x05 0 imm ∧
    exec (.motorSetRampRate imm) s = .next
      { s with rampRate := imm, msCount := 0, respWord := 0x00050000 }

/-- R205: MOTOR_GET_RAMP_RATE. -/
def Obligations.MotorGetRampRateResult : Prop :=
  encode .motorGetRampRate = 0x06000000 ∧
  ∀ s : State, exec .motorGetRampRate s = .next
    { s with respWord := packWord 0x00 0x06 s.rampRate }

/-- R206: MOTOR_GET_SPEED_TARGET, and the two corner values the rule gives. -/
def Obligations.MotorGetSpeedTargetResult : Prop :=
  (∀ (m : Motor) (s : State),
    encode (.motorGetSpeedTarget m) = packWord 0x08 m.idField 0 ∧
    ∃ d : Half, exec (.motorGetSpeedTarget m) s = .next { s with respWord := packWord 0x00 0x08 d } ∧
      d.toInt = tgtSpeed s m ∧
      (tgtSpeed s m = -50 → d = 0xFFCE) ∧ (tgtSpeed s m = -100 → d = 0xFF9C))

/-- R207: MOTOR_GET_SPEED_CURRENT, and that in a cycle with a tick it reads the speed after
the tick. -/
def Obligations.MotorGetSpeedCurrentResult : Prop :=
  (∀ (m : Motor) (s : State),
    encode (.motorGetSpeedCurrent m) = packWord 0x09 m.idField 0 ∧
    ∃ d : Half, exec (.motorGetSpeedCurrent m) s = .next { s with respWord := packWord 0x00 0x09 d } ∧
      d.toInt = curSpeed s m) ∧
  (∀ (m : Motor) (inp : Inputs) (s : State), performed inp = some (.motorGetSpeedCurrent m) →
    inp.msStrobe = true →
    ∃ t, runCycle inp s = .next t ∧
      (responseData t.respWord).toInt = curSpeed (strobePhase inp.isense (beginCycle s)) m)

/-- R208: MOTOR_GET_CURRENT reads the Q16.8 filter state rounded half up. -/
def Obligations.MotorGetCurrentResult : Prop :=
  ∀ (m : Motor) (s : State),
    encode (.motorGetCurrent m) = packWord 0x0A m.idField 0 ∧
    exec (.motorGetCurrent m) s = .next
      { s with respWord := packWord 0x00 0x0A (BitVec.ofNat 16 (((s.filt.get m).toNat + 128) / 256)) } ∧
    ((s.filt.get m).toNat ≤ 0xFFFF00 →
      (BitVec.ofNat 16 (((s.filt.get m).toNat + 128) / 256)).toNat =
        ((s.filt.get m).toNat + 128) / 256)

/-- R209, R46: MOTOR_GET_DRIVE_MODE reads the pattern on the pins: 0 COAST, 1 CW, 2 CCW,
3 BRAKE. -/
def Obligations.MotorGetDriveModeResult : Prop :=
  ∀ (m : Motor) (s : State),
    encode (.motorGetDriveMode m) = packWord 0x0B m.idField 0 ∧
    exec (.motorGetDriveMode m) s = .next
      { s with
        respWord := packWord 0x00 0x0B
          (match s.dirB.get m, s.dirA.get m with
            | false, false => 0
            | false, true => 1
            | true, false => 2
            | true, true => 3) }

/-- R260: SERVO_SET. OUT_OF_RANGE before BUSY; either turns the command away with only the
response written; else the duty of the angle, a full hold, and OK. -/
def Obligations.ServoSetResult : Prop :=
  ∀ (v : Servo) (imm : Half) (s : State),
    encode (.servoSet v imm) = packWord 0x10 v.idField imm ∧
    exec (.servoSet v imm) s = .next
      (if imm.toInt < -90 ∨ 90 < imm.toInt then { s with respWord := 0x01100000 }
      else if s.testActive.get v = true then { s with respWord := 0x05100000 }
      else
        { s with
          pwmVal := s.pwmVal.set (servoChannel v) (servoDuty s.cfg v imm.toInt)
          pwmUpd := s.pwmUpd.set (servoChannel v) true
          trace := s.trace ++ [.pwm (servoChannel v) (servoDuty s.cfg v imm.toInt)]
          holdCount := s.holdCount.set v (BitVec.ofNat 16 s.cfg.settleMs)
          respWord := 0x00100000 })

/-- R265: SERVO_TEST. BUSY while the servo's sweep runs; else the sweep starts at -90 degrees
with a full hold. -/
def Obligations.ServoTestResult : Prop :=
  ∀ (v : Servo) (s : State),
    encode (.servoTest v) = packWord 0x11 v.idField 0 ∧
    exec (.servoTest v) s = .next
      (if s.testActive.get v = true then { s with respWord := 0x05110000 }
      else
        { s with
          testActive := s.testActive.set v true
          testIndex := s.testIndex.set v 0
          pwmVal := s.pwmVal.set (servoChannel v) (servoDuty s.cfg v (-90))
          pwmUpd := s.pwmUpd.set (servoChannel v) true
          trace := s.trace ++ [.pwm (servoChannel v) (servoDuty s.cfg v (-90))]
          holdCount := s.holdCount.set v (BitVec.ofNat 16 s.cfg.settleMs)
          respWord := 0x00110000 })

/-- R268: SERVO_GET_STATUS: data bit 0 is "hold running", bit 1 "sweep running". -/
def Obligations.ServoGetStatusResult : Prop :=
  ∀ (v : Servo) (s : State),
    encode (.servoGetStatus v) = packWord 0x12 v.idField 0 ∧
    exec (.servoGetStatus v) s = .next
      { s with
        respWord := packWord 0x00 0x12
          (if s.testActive.get v = true then (if s.holdCount.get v = 0 then 2 else 3)
          else (if s.holdCount.get v = 0 then 0 else 1)) }

/-- R210: a read-back command answers, and changes no register but the response. -/
def Obligations.ReadBackChangesNothing : Prop :=
  ∀ (i : Instr) (s : State), isReadBack i = true →
    ∃ w, exec i s = .next { s with respWord := w } ∧ responseStatus w = 0 ∧
      responseEcho w = i.opcode.byte

/-! ### The drive primitives, the conversion and the filter -/

/-- R141, R142, R143, R147, R148: `ApplySpeed` for every speed -100..100, pins before duty,
and nothing else written. -/
def Obligations.ApplySpeedResult : Prop :=
  ∀ (m : Motor) (v : Int) (s : State), -100 ≤ v → v ≤ 100 →
    applySpeed m v s =
      { s with
        dirA := s.dirA.set m (decide (0 < v))
        dirB := s.dirB.set m (decide (v < 0))
        en := s.en.set m (decide (v ≠ 0))
        pwmVal := s.pwmVal.set (motorChannel m) (BitVec.ofNat 16 v.natAbs)
        pwmUpd := s.pwmUpd.set (motorChannel m) true
        trace := s.trace ++ [.pin m (decide (0 < v)) (decide (v < 0)) (decide (v ≠ 0)),
          .pwm (motorChannel m) (BitVec.ofNat 16 v.natAbs)] }

/-- R150: the sense conversion, saturating at 0xFFFF, for every legal coefficient. -/
def Obligations.ConvertSenseSaturates : Prop :=
  ∀ (c : Config) (raw : Nat), c.WellFormed →
    (convertSense c raw).toNat = min 65535 (raw * c.senseNum / c.senseDen) ∧
    convertSense c 0 = 0 ∧
    (c.senseNum = 1 → c.senseDen = 1 → raw ≤ 65535 → (convertSense c raw).toNat = raw)

/-- R227: the filter's result lies between its state and the input, so it fits the register. -/
def Obligations.FilterStaysBetween : Prop :=
  ∀ (c : Config) (f : FiltWord) (x : Half), c.AlphaLegal → f.toNat ≤ 0xFFFF00 →
    min f.toNat (x.toNat * 256) ≤ (filterStep c f x).toNat ∧
    (filterStep c f x).toNat ≤ max f.toNat (x.toNat * 256) ∧
    (filterStep c f x).toNat ≤ 0xFFFF00

/-- R232: fed one input for long enough, the filter stops within the residual -127..128, and
from then on MOTOR_GET_CURRENT's data is exactly the input. -/
def Obligations.FilterConvergesToInput : Prop :=
  ∀ (c : Config) (f : FiltWord) (x : Half), c.AlphaLegal → f.toNat ≤ 0xFFFF00 →
    ∃ n₀ : Nat, ∀ n, n₀ ≤ n →
      let g := (fun y => filterStep c y x)^[n] f
      filterStep c g x = g ∧
      -127 ≤ (x.toNat : Int) * 256 - g.toNat ∧ (x.toNat : Int) * 256 - g.toNat ≤ 128 ∧
      currentData g = x

/-! ### The ramp (42_ramp_tick.md) -/

/-- R220, R221: the timebase. In direct mode no tick and phase 0; else the strobe that reaches
the rate ticks and restarts the phase, and any other strobe counts one. -/
def Obligations.TimebaseStepResult : Prop :=
  ∀ (isense : PerMotor Half) (s : State),
    (s.rampRate = 0 → timebaseStep isense s = { s with msCount := 0 }) ∧
    (s.rampRate ≠ 0 → s.rampRate.toNat ≤ s.msCount.toNat + 1 →
      timebaseStep isense s = rampTick isense { s with msCount := 0 }) ∧
    (s.msCount.toNat + 1 < s.rampRate.toNat →
      timebaseStep isense s = { s with msCount := BitVec.ofNat 16 (s.msCount.toNat + 1) })

/-- R223, R224, R225: a ramp tick, motor by motor: the sample and the filter always, one step
toward the target with the drive re-applied where the motor has not converged, and the
events left motor first. -/
def Obligations.RampTickResult : Prop :=
  ∀ (isense : PerMotor Half) (s : State), SpeedsInRange s →
    (∀ m,
      (rampTick isense s).currentRaw.get m = convertSense s.cfg (readSense s.cfg isense m) ∧
      (rampTick isense s).filt.get m =
        filterStep s.cfg (s.filt.get m) (convertSense s.cfg (readSense s.cfg isense m)) ∧
      curSpeed (rampTick isense s) m =
        (if curSpeed s m < tgtSpeed s m then curSpeed s m + 1
        else if tgtSpeed s m < curSpeed s m then curSpeed s m - 1 else curSpeed s m) ∧
      (curSpeed s m ≠ tgtSpeed s m →
        let c := curSpeed (rampTick isense s) m
        (rampTick isense s).dirA.get m = decide (0 < c) ∧
        (rampTick isense s).dirB.get m = decide (c < 0) ∧
        (rampTick isense s).en.get m = decide (c ≠ 0) ∧
        ((rampTick isense s).pwmVal.get (motorChannel m)).toNat = c.natAbs ∧
        (rampTick isense s).pwmUpd.get (motorChannel m) = true) ∧
      (curSpeed s m = tgtSpeed s m →
        (rampTick isense s).dirA.get m = s.dirA.get m ∧
        (rampTick isense s).dirB.get m = s.dirB.get m ∧
        (rampTick isense s).en.get m = s.en.get m ∧
        (rampTick isense s).pwmVal.get (motorChannel m) = s.pwmVal.get (motorChannel m) ∧
        (rampTick isense s).pwmUpd.get (motorChannel m) = s.pwmUpd.get (motorChannel m))) ∧
    (rampTick isense s).trace = s.trace ++
      (if curSpeed s .left = tgtSpeed s .left then []
        else applyEvents .left (curSpeed (rampTick isense s) .left)) ++
      (if curSpeed s .right = tgtSpeed s .right then []
        else applyEvents .right (curSpeed (rampTick isense s) .right)) ∧
    (rampTick isense s).speedTgt = s.speedTgt ∧ (rampTick isense s).rampRate = s.rampRate ∧
    (rampTick isense s).msCount = s.msCount ∧ (rampTick isense s).cfg = s.cfg ∧
    (rampTick isense s).respValid = s.respValid ∧ (rampTick isense s).respWord = s.respWord ∧
    (∀ v, SameServoState v (rampTick isense s) s)

/-- R228: at each tick the current speed changes by +1, by -1 or not at all, toward the target
and never past it; at the target the tick writes nothing for the motor beyond the sample. -/
def Obligations.TickMovesByOneTowardTarget : Prop :=
  ∀ (isense : PerMotor Half) (s : State) (m : Motor), SpeedsInRange s →
    let t := rampTick isense s
    (curSpeed s m < tgtSpeed s m → curSpeed t m = curSpeed s m + 1 ∧ curSpeed t m ≤ tgtSpeed t m) ∧
    (tgtSpeed s m < curSpeed s m → curSpeed t m = curSpeed s m - 1 ∧ tgtSpeed t m ≤ curSpeed t m) ∧
    (curSpeed s m = tgtSpeed s m →
      t.speedCur.get m = s.speedCur.get m ∧ t.dirA.get m = s.dirA.get m ∧
      t.dirB.get m = s.dirB.get m ∧ t.en.get m = s.en.get m ∧
      t.pwmVal.get (motorChannel m) = s.pwmVal.get (motorChannel m) ∧
      t.pwmUpd.get (motorChannel m) = s.pwmUpd.get (motorChannel m) ∧
      t.trace.filter (eventOfMotor m) = s.trace.filter (eventOfMotor m)) ∧
    tgtSpeed t m = tgtSpeed s m ∧ -100 ≤ curSpeed t m ∧ curSpeed t m ≤ 100

/-- R229: left to itself, a ramp reaches its target after exactly `|tgt - cur|` ticks, is
exactly that far along after fewer, and stays there after more. -/
def Obligations.RampConvergesExactly : Prop :=
  ∀ (samples : List (PerMotor Half)) (s : State) (m : Motor),
    let n : Int := samples.length
    tgtSpeed (rampTicks samples s) m = tgtSpeed s m ∧
    curSpeed (rampTicks samples s) m =
      (if curSpeed s m ≤ tgtSpeed s m then min (curSpeed s m + n) (tgtSpeed s m)
      else max (curSpeed s m - n) (tgtSpeed s m)) ∧
    (curSpeed (rampTicks samples s) m = tgtSpeed s m ↔
      (tgtSpeed s m - curSpeed s m).natAbs ≤ samples.length)

/-- R230: a target of the opposite sign is reached through zero: the tick that reaches 0
applies COAST, and the next one the opposite direction with duty 1. -/
def Obligations.ReversalPassesThroughCoast : Prop :=
  ∀ (samples : List (PerMotor Half)) (last : PerMotor Half) (s : State) (m : Motor),
    samples.length = (curSpeed s m).natAbs →
    (curSpeed s m < 0 → 0 < tgtSpeed s m →
      curSpeed (rampTicks samples s) m = 0 ∧ Coasts (rampTicks samples s) m ∧
      curSpeed (rampTick last (rampTicks samples s)) m = 1 ∧
      DrivesCW (rampTick last (rampTicks samples s)) m 1) ∧
    (0 < curSpeed s m → tgtSpeed s m < 0 →
      curSpeed (rampTicks samples s) m = 0 ∧ Coasts (rampTicks samples s) m ∧
      curSpeed (rampTick last (rampTicks samples s)) m = -1 ∧
      DrivesCCW (rampTick last (rampTicks samples s)) m 1)

/-- R222: after MOTOR_SET_RAMP_RATE r > 0 in one cycle (its own strobe, if any, counted before
it), and any cycles with neither reset nor another rate, a strobe ticks exactly when it is the
r-th, 2r-th, 3r-th, ... since. -/
def Obligations.TicksEveryRateStrobes : Prop :=
  ∀ (s : State) (first : Inputs) (sched rest : List Inputs) (r : Half),
    s.cfg.WellFormed → r ≠ 0 → performed first = some (.motorSetRampRate r) →
    (∀ inp ∈ sched, inp.rst = false ∧
      ∀ i, performed inp = some i → setsRampRate i = false) →
    s.inputs = first :: sched ++ rest →
    ∃ t, Host.Core.run Sys2Proof.core (sched.length + 1) s = .next t ∧ t.inputs = rest ∧
      t.rampRate = r ∧ t.msCount.toNat = strobeCount sched % r.toNat ∧
      ∀ isense, timebaseStep isense (beginCycle t) =
        (if r.toNat ∣ strobeCount sched + 1 then
          rampTick isense { beginCycle t with msCount := 0 }
        else { beginCycle t with msCount := BitVec.ofNat 16 (t.msCount.toNat + 1) })

/-- R231, R33 (90_conflicts.md C2): from one cycle to the next the current speed of a motor
moves by more than 1 only through a brake, a neutral or a direct-mode speed command for that
motor, or a reset. -/
def Obligations.OnlyCommandsJumpSpeed : Prop :=
  ∀ (s t : State) (m : Motor), step s = .next t →
    1 < (curSpeed t m - curSpeed s m).natAbs →
    (sampledInputs s).rst = true ∨
      ∃ i, performed (sampledInputs s) = some i ∧ setsTarget m i = true ∧
        (i = .motorBrake m ∨ i = .motorNeutral m ∨ s.rampRate = 0)

/-- R221, R372: in direct mode a cycle without reset takes no current sample: `current_raw` and
the filter keep their values, and the tick phase is 0 after a strobe. -/
def Obligations.DirectModeFreezesTelemetry : Prop :=
  ∀ s t : State, step s = .next t → s.rampRate = 0 → (sampledInputs s).rst = false →
    t.currentRaw = s.currentRaw ∧ t.filt = s.filt ∧
      ((sampledInputs s).msStrobe = true → t.msCount = 0)

/-! ### The servos (43_servo.md) -/

/-- R261: the angle-to-duty map, for every legal calibration and every angle in range:
truncated toward `dzero`, inverted where the servo is mounted so, within the calibration. -/
def Obligations.ServoDutyInterpolates : Prop :=
  ∀ (c : Config) (v : Servo) (angle : Int), (c.servoCal.get v).Monotone →
    -90 ≤ angle → angle ≤ 90 →
    let cal := c.servoCal.get v
    let a := if c.servoInvert.get v = true then -angle else angle
    (0 < a → (servoDuty c v angle).toNat = cal.dzero + (cal.dmax - cal.dzero) * a.toNat / 90) ∧
    (a < 0 → (servoDuty c v angle).toNat = cal.dzero - (cal.dzero - cal.dmin) * (-a).toNat / 90) ∧
    (a = 0 → (servoDuty c v angle).toNat = cal.dzero) ∧
    cal.dmin ≤ (servoDuty c v angle).toNat ∧ (servoDuty c v angle).toNat ≤ cal.dmax

/-- R263: the end points and the centre of the map, swapped by inversion, and that the clamp
changes no value. -/
def Obligations.ServoDutyEndPoints : Prop :=
  ∀ (c : Config) (v : Servo), (c.servoCal.get v).Monotone →
    let cal := c.servoCal.get v
    (servoDuty c v 0).toNat = cal.dzero ∧
    (c.servoInvert.get v = false →
      (servoDuty c v 90).toNat = cal.dmax ∧ (servoDuty c v (-90)).toNat = cal.dmin) ∧
    (c.servoInvert.get v = true →
      (servoDuty c v 90).toNat = cal.dmin ∧ (servoDuty c v (-90)).toNat = cal.dmax) ∧
    (∀ angle, -90 ≤ angle → angle ≤ 90 →
      (cal.dmin : Int) ≤ interpolate cal (mountedAngle c v angle) ∧
        interpolate cal (mountedAngle c v angle) ≤ cal.dmax)

/-- R266: the sweep's points: from -90 up to +90 and back down, 2N + 1 of them, each in range,
+90 at N only. -/
def Obligations.SweepPoints : Prop :=
  ∀ c : Config, c.WellFormed →
    c.sweepN * c.testStepDeg = 180 ∧
    (∀ k, k ≤ c.sweepN → testAngle c k = -90 + k * c.testStepDeg) ∧
    (∀ k, c.sweepN < k → k ≤ 2 * c.sweepN →
      testAngle c k = 90 - (k - c.sweepN : Nat) * c.testStepDeg) ∧
    testAngle c 0 = -90 ∧ testAngle c (2 * c.sweepN) = -90 ∧
    (∀ k, k ≤ 2 * c.sweepN → -90 ≤ testAngle c k ∧ testAngle c k ≤ 90 ∧
      (testAngle c k = 90 ↔ k = c.sweepN))

/-- R270, R271: the strobe step of one servo: a running hold counts down and releases the
channel at 0; with no hold a running sweep goes to its next point or ends; else nothing. -/
def Obligations.ServoStrobeStepResult : Prop :=
  ∀ (v : Servo) (s : State),
    (1 < (s.holdCount.get v).toNat → servoStrobeStep v s =
      { s with holdCount := s.holdCount.set v (s.holdCount.get v - 1) }) ∧
    (s.holdCount.get v = 1 → servoStrobeStep v s =
      { s with
        holdCount := s.holdCount.set v 0
        pwmVal := s.pwmVal.set (servoChannel v) 0
        pwmUpd := s.pwmUpd.set (servoChannel v) true
        trace := s.trace ++ [.pwm (servoChannel v) 0] }) ∧
    (s.holdCount.get v = 0 → s.testActive.get v = false → servoStrobeStep v s = s) ∧
    (s.holdCount.get v = 0 → s.testActive.get v = true →
      (s.testIndex.get v).toNat = 2 * s.cfg.sweepN →
      servoStrobeStep v s =
        { s with testActive := s.testActive.set v false, testIndex := s.testIndex.set v 0 }) ∧
    (s.holdCount.get v = 0 → s.testActive.get v = true →
      (s.testIndex.get v).toNat < 2 * s.cfg.sweepN →
      let k := (s.testIndex.get v).toNat + 1
      servoStrobeStep v s =
        { s with
          testIndex := s.testIndex.set v (BitVec.ofNat 16 k)
          pwmVal := s.pwmVal.set (servoChannel v) (servoDuty s.cfg v (testAngle s.cfg k))
          pwmUpd := s.pwmUpd.set (servoChannel v) true
          trace := s.trace ++ [.pwm (servoChannel v) (servoDuty s.cfg v (testAngle s.cfg k))]
          holdCount := s.holdCount.set v (BitVec.ofNat 16 s.cfg.settleMs) })

/-- R270 (corner case), R262, R272: a duty written in one cycle stands, whatever else is
commanded, until the `SERVO_SETTLE_MS`-th strobe after it, and then the channel is 0. -/
def Obligations.HoldLastsSettleStrobes : Prop :=
  ∀ (s : State) (v : Servo) (imm : Half) (first : Inputs) (sched rest : List Inputs),
    s.cfg.WellFormed → s.testActive.get v = false →
    performed first = some (.servoSet v imm) → -90 ≤ imm.toInt → imm.toInt ≤ 90 →
    (∀ inp ∈ sched, inp.rst = false ∧ ∀ i, performed inp = some i → drivesServo v i = false) →
    s.inputs = first :: sched ++ rest →
    ∃ t, Host.Core.run Sys2Proof.core (sched.length + 1) s = .next t ∧ t.inputs = rest ∧
      t.testActive.get v = false ∧
      (t.holdCount.get v).toNat = s.cfg.settleMs - strobeCount sched ∧
      t.pwmVal.get (servoChannel v) =
        (if strobeCount sched < s.cfg.settleMs then servoDuty s.cfg v imm.toInt else 0)

/-- R271, R265, R266, R380: the sweep. After SERVO_TEST, whatever else is commanded and however
the strobes are spaced, strobe n finds the sweep at point n / (settle + 1), driven for the
first `settle` strobes of it and released in the gap; and the strobe numbered
(2N + 1) * (settle + 1) ends it. -/
def Obligations.SweepTimeline : Prop :=
  ∀ (s : State) (v : Servo) (first : Inputs) (sched rest : List Inputs),
    s.cfg.WellFormed → s.testActive.get v = false →
    performed first = some (.servoTest v) → (∀ inp ∈ sched, inp.rst = false) →
    s.inputs = first :: sched ++ rest →
    strobeCount sched < (2 * s.cfg.sweepN + 1) * (s.cfg.settleMs + 1) →
    let k := strobeCount sched / (s.cfg.settleMs + 1)
    let r := strobeCount sched % (s.cfg.settleMs + 1)
    ∃ t, Host.Core.run Sys2Proof.core (sched.length + 1) s = .next t ∧ t.inputs = rest ∧
      t.testActive.get v = true ∧ (t.testIndex.get v).toNat = k ∧
      (t.holdCount.get v).toNat = s.cfg.settleMs - r ∧
      t.pwmVal.get (servoChannel v) =
        (if r < s.cfg.settleMs then servoDuty s.cfg v (testAngle s.cfg k) else 0) ∧
      (strobeCount sched + 1 = (2 * s.cfg.sweepN + 1) * (s.cfg.settleMs + 1) →
        ∀ inp : Inputs, inp.rst = false → inp.msStrobe = true → inp.cmdValid = false →
          ∃ u, runCycle inp t = .next u ∧ u.testActive.get v = false ∧
            u.testIndex.get v = 0 ∧ u.holdCount.get v = 0 ∧
            u.pwmVal.get (servoChannel v) = 0 ∧ u.pwmUpd.get (servoChannel v) = false)

/-! ### One cycle (10_state.md R60) -/

/-- R60, R61, R114: a cycle that presents a command's word runs that command, after the cycle's
autonomous operations and on the state they left, and flags the response. -/
def Obligations.StepRunsDecodedCommand : Prop :=
  ∀ (s t : State) (i : Instr), s.cfg.WellFormed → (sampledInputs s).rst = false →
    (sampledInputs s).cmdValid = true → decode (sampledInputs s).cmdWord = .ok i →
    exec i (autonomousPhase (sampledInputs s) (beginCycle (afterSampling s))) = .next t →
    step s = .next { t with respValid := true }

/-- R60, R326: the order of a cycle with a strobe: timebase, servo 0, servo 1, then the command;
a cycle with neither strobe nor command only clears the update strobes and `resp_valid`. -/
def Obligations.CycleOrder : Prop :=
  ∀ (inp : Inputs) (s : State), inp.rst = false →
    (inp.msStrobe = true → inp.cmdValid = false →
      runCycle inp s = .next
        { servoStrobeStep .s1 (servoStrobeStep .s0 (timebaseStep inp.isense
            { s with pwmUpd := ⟨false, false, false, false⟩, trace := [] })) with
          respValid := false }) ∧
    (inp.msStrobe = true → ∀ i t, performed inp = some i →
      exec i (servoStrobeStep .s1 (servoStrobeStep .s0 (timebaseStep inp.isense
        { s with pwmUpd := ⟨false, false, false, false⟩, trace := [] }))) = .next t →
      runCycle inp s = .next { t with respValid := true }) ∧
    (inp.msStrobe = false → inp.cmdValid = false →
      runCycle inp s = .next
        { s with pwmUpd := ⟨false, false, false, false⟩, trace := [], respValid := false })

/-- R324, R320, R8 (where the refusal stands is the model's choice, log entry 9): under a legal configuration every cycle ends in a next state, whatever the
command word; under any other the machine is refused. -/
def Obligations.EveryCycleCompletes : Prop :=
  ∀ s : State,
    (s.cfg.WellFormed → ∃ t, step s = .next t) ∧
    (¬ s.cfg.WellFormed → step s = .refused .illegalConfiguration)

/-- R109, R110, R111, R320: a word that fails a dispatch check leaves every register as the
cycle's autonomous operations left it, but for the response: its cause, the opcode as
presented, data 0. -/
def Obligations.RejectedWordOnlyResponds : Prop :=
  ∀ (inp : Inputs) (s : State) (e : DecodeError), inp.rst = false → inp.cmdValid = true →
    decode inp.cmdWord = .error e →
    ∃ w, runCycle inp s = .next
        { autonomousPhase inp (beginCycle s) with respValid := true, respWord := w } ∧
      responseStatus w = (match e with
        | .illegalOpcode => 0x02
        | .reservedField => 0x03
        | .badId => 0x04) ∧
      responseEcho w = inp.cmdWord.extractLsb' 24 8 ∧ responseData w = 0

/-- R54: `resp_valid` after a cycle says whether the cycle had a command and no reset, and a
cycle with neither keeps the response word. -/
def Obligations.ResponseValidFollowsCommand : Prop :=
  ∀ s t : State, step s = .next t →
    (t.respValid = true ↔ (sampledInputs s).cmdValid = true ∧ (sampledInputs s).rst = false) ∧
    ((sampledInputs s).cmdValid = false → (sampledInputs s).rst = false →
      t.respWord = s.respWord)

/-- R112, R113, R321: the response to a command presented without reset: its status is one of
the six, its echo the opcode as presented, its data 0 unless a read-back command answered OK;
OUT_OF_RANGE comes from SERVO_SET only and BUSY from SERVO_SET and SERVO_TEST only. -/
def Obligations.ResponseFormat : Prop :=
  ∀ s t : State, step s = .next t → (sampledInputs s).cmdValid = true →
    (sampledInputs s).rst = false →
    (responseStatus t.respWord).toNat ≤ 5 ∧
    responseEcho t.respWord = (sampledInputs s).cmdWord.extractLsb' 24 8 ∧
    (responseData t.respWord ≠ 0 → responseStatus t.respWord = 0 ∧
      ∃ i, performed (sampledInputs s) = some i ∧ isReadBack i = true) ∧
    (responseStatus t.respWord = 0x01 →
      ∃ v imm, performed (sampledInputs s) = some (.servoSet v imm)) ∧
    (responseStatus t.respWord = 0x05 →
      ∃ v i, performed (sampledInputs s) = some i ∧ drivesServo v i = true) ∧
    (responseStatus t.respWord ∈ [0x02, 0x03, 0x04] ↔ performed (sampledInputs s) = none)

/-- R52, R53: after every cycle, a channel's update strobe says whether the trace holds a write
to it (in a reset cycle it holds none, R360); the last such write is the channel's value; with
none, and no reset, the value stands. -/
def Obligations.UpdateStrobeMarksWrites : Prop :=
  ∀ (s t : State) (c : Channel), step s = .next t →
    (t.pwmUpd.get c = true ↔ ∃ v, Event.pwm c v ∈ t.trace) ∧
    (lastPwm c t.trace = if t.pwmUpd.get c = true then some (t.pwmVal.get c) else none) ∧
    ((sampledInputs s).rst = true → t.trace = []) ∧
    ((sampledInputs s).rst = false → t.pwmUpd.get c = false →
      t.pwmVal.get c = s.pwmVal.get c)

/-- R377: in a cycle with a strobe the command is performed on what the tick and the servo steps
left, so what it writes stands: MOTOR_BRAKE, MOTOR_NEUTRAL and the direct-mode speed commands on
the pins and the motor's channel, SERVO_SET and SERVO_TEST on the servo's channel, with a full
hold, whether the strobe releases a hold, ends a sweep (`SweepOver`) or does neither. -/
def Obligations.CommandAfterTickWins : Prop :=
  (∀ (s t : State) (i : Instr), step s = .next t → performed (sampledInputs s) = some i →
    (sampledInputs s).msStrobe = true →
    ∃ u, exec i (strobePhase (sampledInputs s).isense (beginCycle (afterSampling s))) = .next u ∧
      t = { u with respValid := true }) ∧
  (∀ (s t : State) (m : Motor), step s = .next t →
    performed (sampledInputs s) = some (.motorBrake m) → Brakes t m ∧ curSpeed t m = 0 ∧
      tgtSpeed t m = 0) ∧
  (∀ (s t : State) (m : Motor), step s = .next t →
    performed (sampledInputs s) = some (.motorNeutral m) → Coasts t m ∧ curSpeed t m = 0 ∧
      tgtSpeed t m = 0) ∧
  (∀ (s t : State) (m : Motor) (imm : Half), step s = .next t → s.rampRate = 0 →
    performed (sampledInputs s) = some (.motorForward m imm) →
    curSpeed t m = min (imm.toNat : Int) 100 ∧ tgtSpeed t m = min (imm.toNat : Int) 100 ∧
      (if imm = 0 then Coasts t m else DrivesCW t m (min (imm.toNat : Int) 100))) ∧
  (∀ (s t : State) (m : Motor) (imm : Half), step s = .next t → s.rampRate = 0 →
    performed (sampledInputs s) = some (.motorBackward m imm) →
    curSpeed t m = -min (imm.toNat : Int) 100 ∧ tgtSpeed t m = -min (imm.toNat : Int) 100 ∧
      (if imm = 0 then Coasts t m else DrivesCCW t m (min (imm.toNat : Int) 100))) ∧
  (∀ (s t : State) (v : Servo) (imm : Half), step s = .next t →
    performed (sampledInputs s) = some (.servoSet v imm) → SweepOver s v →
    -90 ≤ imm.toInt → imm.toInt ≤ 90 →
    t.pwmVal.get (servoChannel v) = servoDuty s.cfg v imm.toInt ∧
      (t.holdCount.get v).toNat = s.cfg.settleMs ∧ t.testActive.get v = false) ∧
  (∀ (s t : State) (v : Servo), step s = .next t →
    performed (sampledInputs s) = some (.servoTest v) → SweepOver s v →
    t.pwmVal.get (servoChannel v) = servoDuty s.cfg v (-90) ∧
      (t.holdCount.get v).toNat = s.cfg.settleMs ∧ t.testActive.get v = true ∧
      t.testIndex.get v = 0)

/-! ### Reset (70_reset_and_hazards.md) -/

/-- R360, R62, R363: a cycle with `rst` leaves every register at the value of R30's column,
whatever else is presented, with no trace and no response; a second one leaves the same state. -/
def Obligations.ResetCycle : Prop :=
  (∀ s : State, s.cfg.WellFormed → (sampledInputs s).rst = true →
    step s = .next
      { s with
        speedTgt := ⟨0, 0⟩, speedCur := ⟨0, 0⟩, currentRaw := ⟨0, 0⟩, filt := ⟨0, 0⟩
        rampRate := 0, msCount := 0
        holdCount := ⟨0, 0⟩, testActive := ⟨false, false⟩, testIndex := ⟨0, 0⟩
        dirA := ⟨false, false⟩, dirB := ⟨false, false⟩, en := ⟨false, false⟩
        pwmVal := ⟨0, 0, 0, 0⟩, pwmUpd := ⟨false, false, false, false⟩
        respValid := false, respWord := 0, trace := []
        inputs := (afterSampling s).inputs, draws := (afterSampling s).draws }) ∧
  (∀ (s : State) (first second : Inputs) (rest : List Inputs), s.cfg.WellFormed →
    s.inputs = first :: second :: rest → first.rst = true → second.rst = true →
    ∃ t, step s = .next t ∧ step t = .next { t with inputs := rest })

/-! ### Invariants -/

/-- R33: the speed registers stay in -100..100. -/
def Obligations.SpeedsStayInRange : Prop :=
  (∀ c, SpeedsInRange (State.afterReset c)) ∧
  ∀ s t : State, SpeedsInRange s → step s = .next t → SpeedsInRange t

/-- R38: after every cycle the tick phase is 0 in direct mode and below the rate otherwise. -/
def Obligations.PhaseStaysBelowRate : Prop :=
  (∀ c, PhaseInRange (State.afterReset c)) ∧ (∀ c, (State.afterReset c).msCount = 0) ∧
  ∀ s t : State, PhaseInRange s → step s = .next t → PhaseInRange t

/-- R46, R152: after every cycle each motor's pins hold one of the four patterns with that
pattern's duty; the drive mode names it (COAST 0, CW 1, CCW 2, BRAKE 3), and the enable is on
exactly when the mode is not COAST. -/
def Obligations.DrivePatternStaysLegal : Prop :=
  (∀ c, DrivePatternLegal (State.afterReset c)) ∧
  (∀ s t : State, DrivePatternLegal s → step s = .next t → DrivePatternLegal t) ∧
  ∀ (s : State) (m : Motor), DrivePatternLegal s →
    ((s.en.get m = true ↔ driveMode s m ≠ 0) ∧
      (driveMode s m ≠ 1 → driveMode s m ≠ 2 → s.pwmVal.get (motorChannel m) = 0) ∧
      (driveMode s m = 0 ↔ Coasts s m) ∧ (driveMode s m = 1 ↔ ∃ d, DrivesCW s m d) ∧
      (driveMode s m = 2 ↔ ∃ d, DrivesCCW s m d) ∧ (driveMode s m = 3 ↔ Brakes s m))

/-- R41: the sweep index stays in 0..2N, and is 0 while no sweep runs. -/
def Obligations.SweepIndexStaysInRange : Prop :=
  (∀ c, SweepInRange (State.afterReset c)) ∧
  ∀ s t : State, SweepInRange s → step s = .next t → SweepInRange t

/-- Every invariant of `SoundState` holds after reset, of any legal configuration, and of the
model's own reset state (log entry 2 chooses its configuration). -/
def Obligations.ResetStateIsSound : Prop :=
  (∀ c : Config, c.WellFormed → SoundState (State.afterReset c)) ∧ SoundState State.reset

/-- Every step keeps every invariant of `SoundState`: R33, R38, R41, R113, R227, R262, R272 and
the drive state's mapping of the current speed (D8; DEDUCED, log entry 6). -/
def Obligations.StepKeepsSoundState : Prop :=
  ∀ s t : State, SoundState s → step s = .next t → SoundState t

/-! ### Whole-machine rules and isolation -/

/-- R202: the target of a motor is written by a speed command for it or a reset, and by nothing
else: there is no timeout. -/
def Obligations.TargetPersists : Prop :=
  ∀ (s t : State) (m : Motor), step s = .next t → t.speedTgt.get m ≠ s.speedTgt.get m →
    (sampledInputs s).rst = true ∨
      ∃ i, performed (sampledInputs s) = some i ∧ setsTarget m i = true

/-- R37, R8: only MOTOR_SET_RAMP_RATE (or a reset) writes the ramp rate, and nothing writes the
configuration. -/
def Obligations.RampRateAndConfigWriters : Prop :=
  ∀ s t : State, step s = .next t →
    t.cfg = s.cfg ∧
    (t.rampRate ≠ s.rampRate → (sampledInputs s).rst = true ∨
      ∃ r, performed (sampledInputs s) = some (.motorSetRampRate r) ∧ t.rampRate = r)

/-- R50: no operation writes a channel it does not own: the motor's channel changes through
motor `m`'s commands and the tick, the servo's through servo `v`'s commands and strobe step. Every
other operation leaves the channel's value, its update strobe and its events in the trace, none
added, lost or repeated. -/
def Obligations.ChannelsHaveOneOwner : Prop :=
  (∀ (i : Instr) (s t : State) (c : Channel), exec i s = .next t →
    (∀ m, c = motorChannel m → setsTarget m i = false) →
    (∀ v, c = servoChannel v → drivesServo v i = false) → SameChannel c t s) ∧
  (∀ (isense : PerMotor Half) (m : Motor) (s : State) (c : Channel), c ≠ motorChannel m →
    SameChannel c (rampMotor isense m s) s) ∧
  (∀ (isense : PerMotor Half) (s : State) (v : Servo),
    SameChannel (servoChannel v) (timebaseStep isense s) s) ∧
  (∀ (v : Servo) (s : State) (c : Channel), c ≠ servoChannel v →
    SameChannel c (servoStrobeStep v s) s)

/-- R273: no servo operation changes motor state or the other servo's, and no motor operation
changes servo state. -/
def Obligations.ServosAndMotorsApart : Prop :=
  (∀ (i : Instr) (s t : State) (v : Servo), exec i s = .next t → drivesServo v i = true →
    SameMotorState t s ∧ ∀ w, w ≠ v → SameServoState w t s) ∧
  (∀ (v : Servo) (s : State), SameMotorState (servoStrobeStep v s) s ∧
    ∀ w, w ≠ v → SameServoState w (servoStrobeStep v s) s) ∧
  (∀ (i : Instr) (s t : State), exec i s = .next t → (∀ v, drivesServo v i = false) →
    ∀ v, SameServoState v t s) ∧
  (∀ (isense : PerMotor Half) (s : State) (v : Servo), SameServoState v (timebaseStep isense s) s)

/-- R36, R234: motor `m`'s outcome does not depend on the other motor, on its current-sense
reading, or on the servos: two cycles that agree on motor `m` and on the inputs it reads end in
agreement on motor `m`. -/
def Obligations.MotorsAreIndependent : Prop :=
  ∀ (m : Motor) (s t s' t' : State) (inp inp' : Inputs), AgreeOnMotor m s t →
    inp.rst = inp'.rst → inp.cmdValid = inp'.cmdValid → inp.cmdWord = inp'.cmdWord →
    inp.msStrobe = inp'.msStrobe → inp.isense.get m = inp'.isense.get m →
    runCycle inp s = .next s' → runCycle inp' t = .next t' → AgreeOnMotor m s' t'

/-- R35, R233: telemetry is never fed back. Two cycles that differ only in the filter state, the
last sample and the current-sense readings end in states that differ only there and in the
data of a MOTOR_GET_CURRENT. -/
def Obligations.TelemetryNeverFedBack : Prop :=
  ∀ (s t s' t' : State) (inp inp' : Inputs),
    withoutTelemetry s = withoutTelemetry t → withoutSense inp = withoutSense inp' →
    runCycle inp s = .next s' → runCycle inp' t = .next t' →
    withoutTelemetry s' = withoutTelemetry t' ∧
      (s.respWord = t.respWord → (∀ m, performed inp ≠ some (.motorGetCurrent m)) →
        s'.respWord = t'.respWord)

end
end

