-- ==== Sys2Proof/Laws/Decode.lean ====
section
/-! SUPPORT. The decoder's and encoder's small lemmas: packing and unpacking a word, the opcode
and id maps, the bytes of a link, and the fields of a response word. -/

namespace Sys2Proof

/-- The fields of a packed word are what was packed (R100). -/
theorem fieldsOf_packWord (op id : Byte) (imm : Half) :
    fieldsOf (packWord op id imm) = ⟨op, id, imm⟩ := by
  unfold fieldsOf
  congr 1 <;> apply BitVec.eq_of_getLsbD_eq <;> intro i hi <;>
    simp only [packWord, BitVec.getLsbD_extractLsb', BitVec.getLsbD_append, hi, decide_true,
      Bool.true_and]
  · rw [if_neg (by omega), if_neg (by omega)]; congr 1; omega
  · rw [if_neg (by omega), if_pos (by omega)]; congr 1; omega
  · rw [if_pos (by omega)]; congr 1; omega

/-- A word is the packing of its fields: the three fields cover it (R100). -/
theorem packWord_fieldsOf (w : Word) :
    packWord (fieldsOf w).op (fieldsOf w).id (fieldsOf w).imm = w := by
  apply BitVec.eq_of_getLsbD_eq
  intro i hi
  simp only [packWord, fieldsOf, BitVec.getLsbD_append, BitVec.getLsbD_extractLsb']
  split
  · simp_all
  · split
    · rw [show 16 + (i - 16) = i by omega]
      simp; intro; omega
    · rw [show 24 + (i - 16 - 8) = i by omega]
      simp; intro; omega

/-- The bytes a link sends put the word together again (R83). -/
theorem wordOfLinkBytes_extract (w : Word) :
    wordOfLinkBytes (w.extractLsb' 0 8) (w.extractLsb' 8 8) (w.extractLsb' 16 8)
      (w.extractLsb' 24 8) = w := by
  apply BitVec.eq_of_getLsbD_eq
  intro i hi
  simp only [wordOfLinkBytes, BitVec.getLsbD_append, BitVec.getLsbD_extractLsb']
  have : i < 8 ∨ (8 ≤ i ∧ i < 16) ∨ (16 ≤ i ∧ i < 24) ∨ (24 ≤ i ∧ i < 32) := by omega
  rcases this with h | h | h | h
  · simp [h]
  · simp [show ¬ i < 8 by omega, show i - 8 < 8 by omega]
    rw [show 8 + (i - 8) = i by omega]
  · simp [show ¬ i < 8 by omega, show ¬ i - 8 < 8 by omega, show i - 8 - 8 < 8 by omega]
    rw [show 16 + (i - 8 - 8) = i by omega]
  · simp [show ¬ i < 8 by omega, show ¬ i - 8 < 8 by omega, show ¬ i - 8 - 8 < 8 by omega,
      show i - 8 - 8 - 8 < 8 by omega]
    rw [show 24 + (i - 8 - 8 - 8) = i by omega]

/-- Decoding the bytes of a word is decoding the word, and the bytes after it are left (R83). -/
theorem decodeLinkBytes_linkBytesOf (w : Word) (rest : List Byte) :
    decodeLinkBytes (linkBytesOf w ++ rest) =
      match decode w with
      | .ok i => .ok (i, rest)
      | .error e => .error (.command e) := by
  cases h : decode w <;> simp [linkBytesOf, decodeLinkBytes, wordOfLinkBytes_extract, h]

/-- An opcode the map gives has that byte (R101). -/
theorem byte_of_ofByte {b : Byte} {op : Opcode} (h : Opcode.ofByte b = some op) : op.byte = b := by
  revert op; revert b; decide

/-- The map gives every opcode's byte back (R101). -/
theorem ofByte_byte (op : Opcode) : Opcode.ofByte op.byte = some op := by
  cases op <;> rfl

/-- The reserved opcodes (R101, R109). -/
theorem ofByte_eq_none (b : Byte) :
    Opcode.ofByte b = none ↔
      b = 0x07 ∨ (0x0C ≤ b.toNat ∧ b.toNat ≤ 0x0F) ∨ 0x13 ≤ b.toNat := by
  revert b; decide

/-- A motor id the decoder accepts is the motor's id field. -/
theorem idField_of_motor_ofId {b : Byte} {m : Motor} (h : Motor.ofId b = some m) :
    m.idField = b := by
  revert m; revert b; decide

/-- A servo id the decoder accepts is the servo's id field. -/
theorem idField_of_servo_ofId {b : Byte} {v : Servo} (h : Servo.ofId b = some v) :
    v.idField = b := by
  revert v; revert b; decide

/-- Which ids name no motor (R111). -/
theorem motor_ofId_eq_none (b : Byte) : Motor.ofId b = none ↔ ¬ b.toNat < 2 := by
  revert b; decide

/-- Which ids name no servo (R111). -/
theorem servo_ofId_eq_none (b : Byte) : Servo.ofId b = none ↔ ¬ b.toNat < 2 := by
  revert b; decide

namespace Machine

/-- The status field of a response (R112). -/
@[simp] theorem responseStatus_responseWord (st : Status) (e : Byte) (d : Half) :
    responseStatus (responseWord st e d) = statusCode st :=
  congrArg CommandFields.op (fieldsOf_packWord (statusCode st) e d)

/-- The echo field of a response (R112). -/
@[simp] theorem responseEcho_responseWord (st : Status) (e : Byte) (d : Half) :
    responseEcho (responseWord st e d) = e :=
  congrArg CommandFields.id (fieldsOf_packWord (statusCode st) e d)

/-- The data field of a response (R112). -/
@[simp] theorem responseData_responseWord (st : Status) (e : Byte) (d : Half) :
    responseData (responseWord st e d) = d :=
  congrArg CommandFields.imm (fieldsOf_packWord (statusCode st) e d)

/-- Every status code is one of six (R113). -/
theorem statusCode_le_five (st : Status) : (statusCode st).toNat ≤ 5 := by
  cases st <;> decide

end Machine

end Sys2Proof
end

