-- ==== Sys2Proof/Laws/State.lean ====
section
/-! SUPPORT. The banks (`PerMotor`, `PerServo`, `PerChannel`) read after a write, and for each
register operation one lemma per field of State, so that no later proof unfolds a record update. -/

namespace Sys2Proof

@[simp] theorem PerMotor.get_set {α : Type} (p : PerMotor α) (i j : Motor) (a : α) :
    (p.set i a).get j = if j = i then a else p.get j := by
  cases i <;> cases j <;> rfl

theorem PerMotor.ext_get {α : Type} {p q : PerMotor α} (h : ∀ i, p.get i = q.get i) : p = q := by
  cases p; cases q
  have h0 := h .left; have h1 := h .right; simp_all [PerMotor.get]

@[simp] theorem PerServo.get_set {α : Type} (p : PerServo α) (i j : Servo) (a : α) :
    (p.set i a).get j = if j = i then a else p.get j := by
  cases i <;> cases j <;> rfl

theorem PerServo.ext_get {α : Type} {p q : PerServo α} (h : ∀ i, p.get i = q.get i) : p = q := by
  cases p; cases q
  have h0 := h .s0; have h1 := h .s1; simp_all [PerServo.get]

@[simp] theorem PerChannel.get_set {α : Type} (p : PerChannel α) (i j : Channel) (a : α) :
    (p.set i a).get j = if j = i then a else p.get j := by
  cases i <;> cases j <;> rfl

theorem PerChannel.ext_get {α : Type} {p q : PerChannel α} (h : ∀ i, p.get i = q.get i) : p = q := by
  cases p; cases q
  have h0 := h .c0; have h1 := h .c1; have h2 := h .c2; have h3 := h .c3
  simp_all [PerChannel.get]

/-- A bank write is the identity where the value is already there. -/
theorem PerMotor.set_get {α : Type} (p : PerMotor α) (m : Motor) : p.set m (p.get m) = p := by
  cases m <;> rfl

namespace Machine

@[simp] theorem motorChannel_inj (m n : Motor) : (motorChannel m = motorChannel n) = (m = n) := by
  cases m <;> cases n <;> simp [motorChannel]

@[simp] theorem servoChannel_inj (v w : Servo) : (servoChannel v = servoChannel w) = (v = w) := by
  cases v <;> cases w <;> simp [servoChannel]

@[simp] theorem motorChannel_ne_servoChannel (m : Motor) (v : Servo) :
    motorChannel m ≠ servoChannel v := by
  cases m <;> cases v <;> simp [motorChannel, servoChannel]

@[simp] theorem servoChannel_ne_motorChannel (m : Motor) (v : Servo) :
    servoChannel v ≠ motorChannel m := by
  cases m <;> cases v <;> simp [motorChannel, servoChannel]

@[simp] theorem setSpeedTgt_speedTgt (m : Motor) (v : Speed) (s : State) :
    (setSpeedTgt m v s).speedTgt = s.speedTgt.set m v := rfl
@[simp] theorem setSpeedTgt_speedCur (m : Motor) (v : Speed) (s : State) :
    (setSpeedTgt m v s).speedCur = s.speedCur := rfl
@[simp] theorem setSpeedTgt_currentRaw (m : Motor) (v : Speed) (s : State) :
    (setSpeedTgt m v s).currentRaw = s.currentRaw := rfl
@[simp] theorem setSpeedTgt_filt (m : Motor) (v : Speed) (s : State) :
    (setSpeedTgt m v s).filt = s.filt := rfl
@[simp] theorem setSpeedTgt_rampRate (m : Motor) (v : Speed) (s : State) :
    (setSpeedTgt m v s).rampRate = s.rampRate := rfl
@[simp] theorem setSpeedTgt_msCount (m : Motor) (v : Speed) (s : State) :
    (setSpeedTgt m v s).msCount = s.msCount := rfl
@[simp] theorem setSpeedTgt_holdCount (m : Motor) (v : Speed) (s : State) :
    (setSpeedTgt m v s).holdCount = s.holdCount := rfl
@[simp] theorem setSpeedTgt_testActive (m : Motor) (v : Speed) (s : State) :
    (setSpeedTgt m v s).testActive = s.testActive := rfl
@[simp] theorem setSpeedTgt_testIndex (m : Motor) (v : Speed) (s : State) :
    (setSpeedTgt m v s).testIndex = s.testIndex := rfl
@[simp] theorem setSpeedTgt_dirA (m : Motor) (v : Speed) (s : State) :
    (setSpeedTgt m v s).dirA = s.dirA := rfl
@[simp] theorem setSpeedTgt_dirB (m : Motor) (v : Speed) (s : State) :
    (setSpeedTgt m v s).dirB = s.dirB := rfl
@[simp] theorem setSpeedTgt_en (m : Motor) (v : Speed) (s : State) :
    (setSpeedTgt m v s).en = s.en := rfl
@[simp] theorem setSpeedTgt_pwmVal (m : Motor) (v : Speed) (s : State) :
    (setSpeedTgt m v s).pwmVal = s.pwmVal := rfl
@[simp] theorem setSpeedTgt_pwmUpd (m : Motor) (v : Speed) (s : State) :
    (setSpeedTgt m v s).pwmUpd = s.pwmUpd := rfl
@[simp] theorem setSpeedTgt_respValid (m : Motor) (v : Speed) (s : State) :
    (setSpeedTgt m v s).respValid = s.respValid := rfl
@[simp] theorem setSpeedTgt_respWord (m : Motor) (v : Speed) (s : State) :
    (setSpeedTgt m v s).respWord = s.respWord := rfl
@[simp] theorem setSpeedTgt_trace (m : Motor) (v : Speed) (s : State) :
    (setSpeedTgt m v s).trace = s.trace := rfl
@[simp] theorem setSpeedTgt_cfg (m : Motor) (v : Speed) (s : State) :
    (setSpeedTgt m v s).cfg = s.cfg := rfl
@[simp] theorem setSpeedTgt_inputs (m : Motor) (v : Speed) (s : State) :
    (setSpeedTgt m v s).inputs = s.inputs := rfl
@[simp] theorem setSpeedTgt_draws (m : Motor) (v : Speed) (s : State) :
    (setSpeedTgt m v s).draws = s.draws := rfl

@[simp] theorem setSpeedCur_speedTgt (m : Motor) (v : Speed) (s : State) :
    (setSpeedCur m v s).speedTgt = s.speedTgt := rfl
@[simp] theorem setSpeedCur_speedCur (m : Motor) (v : Speed) (s : State) :
    (setSpeedCur m v s).speedCur = s.speedCur.set m v := rfl
@[simp] theorem setSpeedCur_currentRaw (m : Motor) (v : Speed) (s : State) :
    (setSpeedCur m v s).currentRaw = s.currentRaw := rfl
@[simp] theorem setSpeedCur_filt (m : Motor) (v : Speed) (s : State) :
    (setSpeedCur m v s).filt = s.filt := rfl
@[simp] theorem setSpeedCur_rampRate (m : Motor) (v : Speed) (s : State) :
    (setSpeedCur m v s).rampRate = s.rampRate := rfl
@[simp] theorem setSpeedCur_msCount (m : Motor) (v : Speed) (s : State) :
    (setSpeedCur m v s).msCount = s.msCount := rfl
@[simp] theorem setSpeedCur_holdCount (m : Motor) (v : Speed) (s : State) :
    (setSpeedCur m v s).holdCount = s.holdCount := rfl
@[simp] theorem setSpeedCur_testActive (m : Motor) (v : Speed) (s : State) :
    (setSpeedCur m v s).testActive = s.testActive := rfl
@[simp] theorem setSpeedCur_testIndex (m : Motor) (v : Speed) (s : State) :
    (setSpeedCur m v s).testIndex = s.testIndex := rfl
@[simp] theorem setSpeedCur_dirA (m : Motor) (v : Speed) (s : State) :
    (setSpeedCur m v s).dirA = s.dirA := rfl
@[simp] theorem setSpeedCur_dirB (m : Motor) (v : Speed) (s : State) :
    (setSpeedCur m v s).dirB = s.dirB := rfl
@[simp] theorem setSpeedCur_en (m : Motor) (v : Speed) (s : State) :
    (setSpeedCur m v s).en = s.en := rfl
@[simp] theorem setSpeedCur_pwmVal (m : Motor) (v : Speed) (s : State) :
    (setSpeedCur m v s).pwmVal = s.pwmVal := rfl
@[simp] theorem setSpeedCur_pwmUpd (m : Motor) (v : Speed) (s : State) :
    (setSpeedCur m v s).pwmUpd = s.pwmUpd := rfl
@[simp] theorem setSpeedCur_respValid (m : Motor) (v : Speed) (s : State) :
    (setSpeedCur m v s).respValid = s.respValid := rfl
@[simp] theorem setSpeedCur_respWord (m : Motor) (v : Speed) (s : State) :
    (setSpeedCur m v s).respWord = s.respWord := rfl
@[simp] theorem setSpeedCur_trace (m : Motor) (v : Speed) (s : State) :
    (setSpeedCur m v s).trace = s.trace := rfl
@[simp] theorem setSpeedCur_cfg (m : Motor) (v : Speed) (s : State) :
    (setSpeedCur m v s).cfg = s.cfg := rfl
@[simp] theorem setSpeedCur_inputs (m : Motor) (v : Speed) (s : State) :
    (setSpeedCur m v s).inputs = s.inputs := rfl
@[simp] theorem setSpeedCur_draws (m : Motor) (v : Speed) (s : State) :
    (setSpeedCur m v s).draws = s.draws := rfl

@[simp] theorem setCurrentRaw_speedTgt (m : Motor) (v : Half) (s : State) :
    (setCurrentRaw m v s).speedTgt = s.speedTgt := rfl
@[simp] theorem setCurrentRaw_speedCur (m : Motor) (v : Half) (s : State) :
    (setCurrentRaw m v s).speedCur = s.speedCur := rfl
@[simp] theorem setCurrentRaw_currentRaw (m : Motor) (v : Half) (s : State) :
    (setCurrentRaw m v s).currentRaw = s.currentRaw.set m v := rfl
@[simp] theorem setCurrentRaw_filt (m : Motor) (v : Half) (s : State) :
    (setCurrentRaw m v s).filt = s.filt := rfl
@[simp] theorem setCurrentRaw_rampRate (m : Motor) (v : Half) (s : State) :
    (setCurrentRaw m v s).rampRate = s.rampRate := rfl
@[simp] theorem setCurrentRaw_msCount (m : Motor) (v : Half) (s : State) :
    (setCurrentRaw m v s).msCount = s.msCount := rfl
@[simp] theorem setCurrentRaw_holdCount (m : Motor) (v : Half) (s : State) :
    (setCurrentRaw m v s).holdCount = s.holdCount := rfl
@[simp] theorem setCurrentRaw_testActive (m : Motor) (v : Half) (s : State) :
    (setCurrentRaw m v s).testActive = s.testActive := rfl
@[simp] theorem setCurrentRaw_testIndex (m : Motor) (v : Half) (s : State) :
    (setCurrentRaw m v s).testIndex = s.testIndex := rfl
@[simp] theorem setCurrentRaw_dirA (m : Motor) (v : Half) (s : State) :
    (setCurrentRaw m v s).dirA = s.dirA := rfl
@[simp] theorem setCurrentRaw_dirB (m : Motor) (v : Half) (s : State) :
    (setCurrentRaw m v s).dirB = s.dirB := rfl
@[simp] theorem setCurrentRaw_en (m : Motor) (v : Half) (s : State) :
    (setCurrentRaw m v s).en = s.en := rfl
@[simp] theorem setCurrentRaw_pwmVal (m : Motor) (v : Half) (s : State) :
    (setCurrentRaw m v s).pwmVal = s.pwmVal := rfl
@[simp] theorem setCurrentRaw_pwmUpd (m : Motor) (v : Half) (s : State) :
    (setCurrentRaw m v s).pwmUpd = s.pwmUpd := rfl
@[simp] theorem setCurrentRaw_respValid (m : Motor) (v : Half) (s : State) :
    (setCurrentRaw m v s).respValid = s.respValid := rfl
@[simp] theorem setCurrentRaw_respWord (m : Motor) (v : Half) (s : State) :
    (setCurrentRaw m v s).respWord = s.respWord := rfl
@[simp] theorem setCurrentRaw_trace (m : Motor) (v : Half) (s : State) :
    (setCurrentRaw m v s).trace = s.trace := rfl
@[simp] theorem setCurrentRaw_cfg (m : Motor) (v : Half) (s : State) :
    (setCurrentRaw m v s).cfg = s.cfg := rfl
@[simp] theorem setCurrentRaw_inputs (m : Motor) (v : Half) (s : State) :
    (setCurrentRaw m v s).inputs = s.inputs := rfl
@[simp] theorem setCurrentRaw_draws (m : Motor) (v : Half) (s : State) :
    (setCurrentRaw m v s).draws = s.draws := rfl

@[simp] theorem setFilt_speedTgt (m : Motor) (v : FiltWord) (s : State) :
    (setFilt m v s).speedTgt = s.speedTgt := rfl
@[simp] theorem setFilt_speedCur (m : Motor) (v : FiltWord) (s : State) :
    (setFilt m v s).speedCur = s.speedCur := rfl
@[simp] theorem setFilt_currentRaw (m : Motor) (v : FiltWord) (s : State) :
    (setFilt m v s).currentRaw = s.currentRaw := rfl
@[simp] theorem setFilt_filt (m : Motor) (v : FiltWord) (s : State) :
    (setFilt m v s).filt = s.filt.set m v := rfl
@[simp] theorem setFilt_rampRate (m : Motor) (v : FiltWord) (s : State) :
    (setFilt m v s).rampRate = s.rampRate := rfl
@[simp] theorem setFilt_msCount (m : Motor) (v : FiltWord) (s : State) :
    (setFilt m v s).msCount = s.msCount := rfl
@[simp] theorem setFilt_holdCount (m : Motor) (v : FiltWord) (s : State) :
    (setFilt m v s).holdCount = s.holdCount := rfl
@[simp] theorem setFilt_testActive (m : Motor) (v : FiltWord) (s : State) :
    (setFilt m v s).testActive = s.testActive := rfl
@[simp] theorem setFilt_testIndex (m : Motor) (v : FiltWord) (s : State) :
    (setFilt m v s).testIndex = s.testIndex := rfl
@[simp] theorem setFilt_dirA (m : Motor) (v : FiltWord) (s : State) :
    (setFilt m v s).dirA = s.dirA := rfl
@[simp] theorem setFilt_dirB (m : Motor) (v : FiltWord) (s : State) :
    (setFilt m v s).dirB = s.dirB := rfl
@[simp] theorem setFilt_en (m : Motor) (v : FiltWord) (s : State) :
    (setFilt m v s).en = s.en := rfl
@[simp] theorem setFilt_pwmVal (m : Motor) (v : FiltWord) (s : State) :
    (setFilt m v s).pwmVal = s.pwmVal := rfl
@[simp] theorem setFilt_pwmUpd (m : Motor) (v : FiltWord) (s : State) :
    (setFilt m v s).pwmUpd = s.pwmUpd := rfl
@[simp] theorem setFilt_respValid (m : Motor) (v : FiltWord) (s : State) :
    (setFilt m v s).respValid = s.respValid := rfl
@[simp] theorem setFilt_respWord (m : Motor) (v : FiltWord) (s : State) :
    (setFilt m v s).respWord = s.respWord := rfl
@[simp] theorem setFilt_trace (m : Motor) (v : FiltWord) (s : State) :
    (setFilt m v s).trace = s.trace := rfl
@[simp] theorem setFilt_cfg (m : Motor) (v : FiltWord) (s : State) :
    (setFilt m v s).cfg = s.cfg := rfl
@[simp] theorem setFilt_inputs (m : Motor) (v : FiltWord) (s : State) :
    (setFilt m v s).inputs = s.inputs := rfl
@[simp] theorem setFilt_draws (m : Motor) (v : FiltWord) (s : State) :
    (setFilt m v s).draws = s.draws := rfl

@[simp] theorem setRampRate_speedTgt (v : Half) (s : State) :
    (setRampRate v s).speedTgt = s.speedTgt := rfl
@[simp] theorem setRampRate_speedCur (v : Half) (s : State) :
    (setRampRate v s).speedCur = s.speedCur := rfl
@[simp] theorem setRampRate_currentRaw (v : Half) (s : State) :
    (setRampRate v s).currentRaw = s.currentRaw := rfl
@[simp] theorem setRampRate_filt (v : Half) (s : State) :
    (setRampRate v s).filt = s.filt := rfl
@[simp] theorem setRampRate_rampRate (v : Half) (s : State) :
    (setRampRate v s).rampRate = v := rfl
@[simp] theorem setRampRate_msCount (v : Half) (s : State) :
    (setRampRate v s).msCount = s.msCount := rfl
@[simp] theorem setRampRate_holdCount (v : Half) (s : State) :
    (setRampRate v s).holdCount = s.holdCount := rfl
@[simp] theorem setRampRate_testActive (v : Half) (s : State) :
    (setRampRate v s).testActive = s.testActive := rfl
@[simp] theorem setRampRate_testIndex (v : Half) (s : State) :
    (setRampRate v s).testIndex = s.testIndex := rfl
@[simp] theorem setRampRate_dirA (v : Half) (s : State) :
    (setRampRate v s).dirA = s.dirA := rfl
@[simp] theorem setRampRate_dirB (v : Half) (s : State) :
    (setRampRate v s).dirB = s.dirB := rfl
@[simp] theorem setRampRate_en (v : Half) (s : State) :
    (setRampRate v s).en = s.en := rfl
@[simp] theorem setRampRate_pwmVal (v : Half) (s : State) :
    (setRampRate v s).pwmVal = s.pwmVal := rfl
@[simp] theorem setRampRate_pwmUpd (v : Half) (s : State) :
    (setRampRate v s).pwmUpd = s.pwmUpd := rfl
@[simp] theorem setRampRate_respValid (v : Half) (s : State) :
    (setRampRate v s).respValid = s.respValid := rfl
@[simp] theorem setRampRate_respWord (v : Half) (s : State) :
    (setRampRate v s).respWord = s.respWord := rfl
@[simp] theorem setRampRate_trace (v : Half) (s : State) :
    (setRampRate v s).trace = s.trace := rfl
@[simp] theorem setRampRate_cfg (v : Half) (s : State) :
    (setRampRate v s).cfg = s.cfg := rfl
@[simp] theorem setRampRate_inputs (v : Half) (s : State) :
    (setRampRate v s).inputs = s.inputs := rfl
@[simp] theorem setRampRate_draws (v : Half) (s : State) :
    (setRampRate v s).draws = s.draws := rfl

@[simp] theorem setMsCount_speedTgt (v : Half) (s : State) :
    (setMsCount v s).speedTgt = s.speedTgt := rfl
@[simp] theorem setMsCount_speedCur (v : Half) (s : State) :
    (setMsCount v s).speedCur = s.speedCur := rfl
@[simp] theorem setMsCount_currentRaw (v : Half) (s : State) :
    (setMsCount v s).currentRaw = s.currentRaw := rfl
@[simp] theorem setMsCount_filt (v : Half) (s : State) :
    (setMsCount v s).filt = s.filt := rfl
@[simp] theorem setMsCount_rampRate (v : Half) (s : State) :
    (setMsCount v s).rampRate = s.rampRate := rfl
@[simp] theorem setMsCount_msCount (v : Half) (s : State) :
    (setMsCount v s).msCount = v := rfl
@[simp] theorem setMsCount_holdCount (v : Half) (s : State) :
    (setMsCount v s).holdCount = s.holdCount := rfl
@[simp] theorem setMsCount_testActive (v : Half) (s : State) :
    (setMsCount v s).testActive = s.testActive := rfl
@[simp] theorem setMsCount_testIndex (v : Half) (s : State) :
    (setMsCount v s).testIndex = s.testIndex := rfl
@[simp] theorem setMsCount_dirA (v : Half) (s : State) :
    (setMsCount v s).dirA = s.dirA := rfl
@[simp] theorem setMsCount_dirB (v : Half) (s : State) :
    (setMsCount v s).dirB = s.dirB := rfl
@[simp] theorem setMsCount_en (v : Half) (s : State) :
    (setMsCount v s).en = s.en := rfl
@[simp] theorem setMsCount_pwmVal (v : Half) (s : State) :
    (setMsCount v s).pwmVal = s.pwmVal := rfl
@[simp] theorem setMsCount_pwmUpd (v : Half) (s : State) :
    (setMsCount v s).pwmUpd = s.pwmUpd := rfl
@[simp] theorem setMsCount_respValid (v : Half) (s : State) :
    (setMsCount v s).respValid = s.respValid := rfl
@[simp] theorem setMsCount_respWord (v : Half) (s : State) :
    (setMsCount v s).respWord = s.respWord := rfl
@[simp] theorem setMsCount_trace (v : Half) (s : State) :
    (setMsCount v s).trace = s.trace := rfl
@[simp] theorem setMsCount_cfg (v : Half) (s : State) :
    (setMsCount v s).cfg = s.cfg := rfl
@[simp] theorem setMsCount_inputs (v : Half) (s : State) :
    (setMsCount v s).inputs = s.inputs := rfl
@[simp] theorem setMsCount_draws (v : Half) (s : State) :
    (setMsCount v s).draws = s.draws := rfl

@[simp] theorem setHoldCount_speedTgt (v : Servo) (n : Half) (s : State) :
    (setHoldCount v n s).speedTgt = s.speedTgt := rfl
@[simp] theorem setHoldCount_speedCur (v : Servo) (n : Half) (s : State) :
    (setHoldCount v n s).speedCur = s.speedCur := rfl
@[simp] theorem setHoldCount_currentRaw (v : Servo) (n : Half) (s : State) :
    (setHoldCount v n s).currentRaw = s.currentRaw := rfl
@[simp] theorem setHoldCount_filt (v : Servo) (n : Half) (s : State) :
    (setHoldCount v n s).filt = s.filt := rfl
@[simp] theorem setHoldCount_rampRate (v : Servo) (n : Half) (s : State) :
    (setHoldCount v n s).rampRate = s.rampRate := rfl
@[simp] theorem setHoldCount_msCount (v : Servo) (n : Half) (s : State) :
    (setHoldCount v n s).msCount = s.msCount := rfl
@[simp] theorem setHoldCount_holdCount (v : Servo) (n : Half) (s : State) :
    (setHoldCount v n s).holdCount = s.holdCount.set v n := rfl
@[simp] theorem setHoldCount_testActive (v : Servo) (n : Half) (s : State) :
    (setHoldCount v n s).testActive = s.testActive := rfl
@[simp] theorem setHoldCount_testIndex (v : Servo) (n : Half) (s : State) :
    (setHoldCount v n s).testIndex = s.testIndex := rfl
@[simp] theorem setHoldCount_dirA (v : Servo) (n : Half) (s : State) :
    (setHoldCount v n s).dirA = s.dirA := rfl
@[simp] theorem setHoldCount_dirB (v : Servo) (n : Half) (s : State) :
    (setHoldCount v n s).dirB = s.dirB := rfl
@[simp] theorem setHoldCount_en (v : Servo) (n : Half) (s : State) :
    (setHoldCount v n s).en = s.en := rfl
@[simp] theorem setHoldCount_pwmVal (v : Servo) (n : Half) (s : State) :
    (setHoldCount v n s).pwmVal = s.pwmVal := rfl
@[simp] theorem setHoldCount_pwmUpd (v : Servo) (n : Half) (s : State) :
    (setHoldCount v n s).pwmUpd = s.pwmUpd := rfl
@[simp] theorem setHoldCount_respValid (v : Servo) (n : Half) (s : State) :
    (setHoldCount v n s).respValid = s.respValid := rfl
@[simp] theorem setHoldCount_respWord (v : Servo) (n : Half) (s : State) :
    (setHoldCount v n s).respWord = s.respWord := rfl
@[simp] theorem setHoldCount_trace (v : Servo) (n : Half) (s : State) :
    (setHoldCount v n s).trace = s.trace := rfl
@[simp] theorem setHoldCount_cfg (v : Servo) (n : Half) (s : State) :
    (setHoldCount v n s).cfg = s.cfg := rfl
@[simp] theorem setHoldCount_inputs (v : Servo) (n : Half) (s : State) :
    (setHoldCount v n s).inputs = s.inputs := rfl
@[simp] theorem setHoldCount_draws (v : Servo) (n : Half) (s : State) :
    (setHoldCount v n s).draws = s.draws := rfl

@[simp] theorem setTestActive_speedTgt (v : Servo) (b : Bool) (s : State) :
    (setTestActive v b s).speedTgt = s.speedTgt := rfl
@[simp] theorem setTestActive_speedCur (v : Servo) (b : Bool) (s : State) :
    (setTestActive v b s).speedCur = s.speedCur := rfl
@[simp] theorem setTestActive_currentRaw (v : Servo) (b : Bool) (s : State) :
    (setTestActive v b s).currentRaw = s.currentRaw := rfl
@[simp] theorem setTestActive_filt (v : Servo) (b : Bool) (s : State) :
    (setTestActive v b s).filt = s.filt := rfl
@[simp] theorem setTestActive_rampRate (v : Servo) (b : Bool) (s : State) :
    (setTestActive v b s).rampRate = s.rampRate := rfl
@[simp] theorem setTestActive_msCount (v : Servo) (b : Bool) (s : State) :
    (setTestActive v b s).msCount = s.msCount := rfl
@[simp] theorem setTestActive_holdCount (v : Servo) (b : Bool) (s : State) :
    (setTestActive v b s).holdCount = s.holdCount := rfl
@[simp] theorem setTestActive_testActive (v : Servo) (b : Bool) (s : State) :
    (setTestActive v b s).testActive = s.testActive.set v b := rfl
@[simp] theorem setTestActive_testIndex (v : Servo) (b : Bool) (s : State) :
    (setTestActive v b s).testIndex = s.testIndex := rfl
@[simp] theorem setTestActive_dirA (v : Servo) (b : Bool) (s : State) :
    (setTestActive v b s).dirA = s.dirA := rfl
@[simp] theorem setTestActive_dirB (v : Servo) (b : Bool) (s : State) :
    (setTestActive v b s).dirB = s.dirB := rfl
@[simp] theorem setTestActive_en (v : Servo) (b : Bool) (s : State) :
    (setTestActive v b s).en = s.en := rfl
@[simp] theorem setTestActive_pwmVal (v : Servo) (b : Bool) (s : State) :
    (setTestActive v b s).pwmVal = s.pwmVal := rfl
@[simp] theorem setTestActive_pwmUpd (v : Servo) (b : Bool) (s : State) :
    (setTestActive v b s).pwmUpd = s.pwmUpd := rfl
@[simp] theorem setTestActive_respValid (v : Servo) (b : Bool) (s : State) :
    (setTestActive v b s).respValid = s.respValid := rfl
@[simp] theorem setTestActive_respWord (v : Servo) (b : Bool) (s : State) :
    (setTestActive v b s).respWord = s.respWord := rfl
@[simp] theorem setTestActive_trace (v : Servo) (b : Bool) (s : State) :
    (setTestActive v b s).trace = s.trace := rfl
@[simp] theorem setTestActive_cfg (v : Servo) (b : Bool) (s : State) :
    (setTestActive v b s).cfg = s.cfg := rfl
@[simp] theorem setTestActive_inputs (v : Servo) (b : Bool) (s : State) :
    (setTestActive v b s).inputs = s.inputs := rfl
@[simp] theorem setTestActive_draws (v : Servo) (b : Bool) (s : State) :
    (setTestActive v b s).draws = s.draws := rfl

@[simp] theorem setTestIndex_speedTgt (v : Servo) (k : Half) (s : State) :
    (setTestIndex v k s).speedTgt = s.speedTgt := rfl
@[simp] theorem setTestIndex_speedCur (v : Servo) (k : Half) (s : State) :
    (setTestIndex v k s).speedCur = s.speedCur := rfl
@[simp] theorem setTestIndex_currentRaw (v : Servo) (k : Half) (s : State) :
    (setTestIndex v k s).currentRaw = s.currentRaw := rfl
@[simp] theorem setTestIndex_filt (v : Servo) (k : Half) (s : State) :
    (setTestIndex v k s).filt = s.filt := rfl
@[simp] theorem setTestIndex_rampRate (v : Servo) (k : Half) (s : State) :
    (setTestIndex v k s).rampRate = s.rampRate := rfl
@[simp] theorem setTestIndex_msCount (v : Servo) (k : Half) (s : State) :
    (setTestIndex v k s).msCount = s.msCount := rfl
@[simp] theorem setTestIndex_holdCount (v : Servo) (k : Half) (s : State) :
    (setTestIndex v k s).holdCount = s.holdCount := rfl
@[simp] theorem setTestIndex_testActive (v : Servo) (k : Half) (s : State) :
    (setTestIndex v k s).testActive = s.testActive := rfl
@[simp] theorem setTestIndex_testIndex (v : Servo) (k : Half) (s : State) :
    (setTestIndex v k s).testIndex = s.testIndex.set v k := rfl
@[simp] theorem setTestIndex_dirA (v : Servo) (k : Half) (s : State) :
    (setTestIndex v k s).dirA = s.dirA := rfl
@[simp] theorem setTestIndex_dirB (v : Servo) (k : Half) (s : State) :
    (setTestIndex v k s).dirB = s.dirB := rfl
@[simp] theorem setTestIndex_en (v : Servo) (k : Half) (s : State) :
    (setTestIndex v k s).en = s.en := rfl
@[simp] theorem setTestIndex_pwmVal (v : Servo) (k : Half) (s : State) :
    (setTestIndex v k s).pwmVal = s.pwmVal := rfl
@[simp] theorem setTestIndex_pwmUpd (v : Servo) (k : Half) (s : State) :
    (setTestIndex v k s).pwmUpd = s.pwmUpd := rfl
@[simp] theorem setTestIndex_respValid (v : Servo) (k : Half) (s : State) :
    (setTestIndex v k s).respValid = s.respValid := rfl
@[simp] theorem setTestIndex_respWord (v : Servo) (k : Half) (s : State) :
    (setTestIndex v k s).respWord = s.respWord := rfl
@[simp] theorem setTestIndex_trace (v : Servo) (k : Half) (s : State) :
    (setTestIndex v k s).trace = s.trace := rfl
@[simp] theorem setTestIndex_cfg (v : Servo) (k : Half) (s : State) :
    (setTestIndex v k s).cfg = s.cfg := rfl
@[simp] theorem setTestIndex_inputs (v : Servo) (k : Half) (s : State) :
    (setTestIndex v k s).inputs = s.inputs := rfl
@[simp] theorem setTestIndex_draws (v : Servo) (k : Half) (s : State) :
    (setTestIndex v k s).draws = s.draws := rfl

@[simp] theorem pinWrite_speedTgt (m : Motor) (a b e : Bool) (s : State) :
    (pinWrite m a b e s).speedTgt = s.speedTgt := rfl
@[simp] theorem pinWrite_speedCur (m : Motor) (a b e : Bool) (s : State) :
    (pinWrite m a b e s).speedCur = s.speedCur := rfl
@[simp] theorem pinWrite_currentRaw (m : Motor) (a b e : Bool) (s : State) :
    (pinWrite m a b e s).currentRaw = s.currentRaw := rfl
@[simp] theorem pinWrite_filt (m : Motor) (a b e : Bool) (s : State) :
    (pinWrite m a b e s).filt = s.filt := rfl
@[simp] theorem pinWrite_rampRate (m : Motor) (a b e : Bool) (s : State) :
    (pinWrite m a b e s).rampRate = s.rampRate := rfl
@[simp] theorem pinWrite_msCount (m : Motor) (a b e : Bool) (s : State) :
    (pinWrite m a b e s).msCount = s.msCount := rfl
@[simp] theorem pinWrite_holdCount (m : Motor) (a b e : Bool) (s : State) :
    (pinWrite m a b e s).holdCount = s.holdCount := rfl
@[simp] theorem pinWrite_testActive (m : Motor) (a b e : Bool) (s : State) :
    (pinWrite m a b e s).testActive = s.testActive := rfl
@[simp] theorem pinWrite_testIndex (m : Motor) (a b e : Bool) (s : State) :
    (pinWrite m a b e s).testIndex = s.testIndex := rfl
@[simp] theorem pinWrite_dirA (m : Motor) (a b e : Bool) (s : State) :
    (pinWrite m a b e s).dirA = s.dirA.set m a := rfl
@[simp] theorem pinWrite_dirB (m : Motor) (a b e : Bool) (s : State) :
    (pinWrite m a b e s).dirB = s.dirB.set m b := rfl
@[simp] theorem pinWrite_en (m : Motor) (a b e : Bool) (s : State) :
    (pinWrite m a b e s).en = s.en.set m e := rfl
@[simp] theorem pinWrite_pwmVal (m : Motor) (a b e : Bool) (s : State) :
    (pinWrite m a b e s).pwmVal = s.pwmVal := rfl
@[simp] theorem pinWrite_pwmUpd (m : Motor) (a b e : Bool) (s : State) :
    (pinWrite m a b e s).pwmUpd = s.pwmUpd := rfl
@[simp] theorem pinWrite_respValid (m : Motor) (a b e : Bool) (s : State) :
    (pinWrite m a b e s).respValid = s.respValid := rfl
@[simp] theorem pinWrite_respWord (m : Motor) (a b e : Bool) (s : State) :
    (pinWrite m a b e s).respWord = s.respWord := rfl
@[simp] theorem pinWrite_trace (m : Motor) (a b e : Bool) (s : State) :
    (pinWrite m a b e s).trace = s.trace ++ [.pin m a b e] := rfl
@[simp] theorem pinWrite_cfg (m : Motor) (a b e : Bool) (s : State) :
    (pinWrite m a b e s).cfg = s.cfg := rfl
@[simp] theorem pinWrite_inputs (m : Motor) (a b e : Bool) (s : State) :
    (pinWrite m a b e s).inputs = s.inputs := rfl
@[simp] theorem pinWrite_draws (m : Motor) (a b e : Bool) (s : State) :
    (pinWrite m a b e s).draws = s.draws := rfl

@[simp] theorem pwmWrite_speedTgt (c : Channel) (v : Half) (s : State) :
    (pwmWrite c v s).speedTgt = s.speedTgt := rfl
@[simp] theorem pwmWrite_speedCur (c : Channel) (v : Half) (s : State) :
    (pwmWrite c v s).speedCur = s.speedCur := rfl
@[simp] theorem pwmWrite_currentRaw (c : Channel) (v : Half) (s : State) :
    (pwmWrite c v s).currentRaw = s.currentRaw := rfl
@[simp] theorem pwmWrite_filt (c : Channel) (v : Half) (s : State) :
    (pwmWrite c v s).filt = s.filt := rfl
@[simp] theorem pwmWrite_rampRate (c : Channel) (v : Half) (s : State) :
    (pwmWrite c v s).rampRate = s.rampRate := rfl
@[simp] theorem pwmWrite_msCount (c : Channel) (v : Half) (s : State) :
    (pwmWrite c v s).msCount = s.msCount := rfl
@[simp] theorem pwmWrite_holdCount (c : Channel) (v : Half) (s : State) :
    (pwmWrite c v s).holdCount = s.holdCount := rfl
@[simp] theorem pwmWrite_testActive (c : Channel) (v : Half) (s : State) :
    (pwmWrite c v s).testActive = s.testActive := rfl
@[simp] theorem pwmWrite_testIndex (c : Channel) (v : Half) (s : State) :
    (pwmWrite c v s).testIndex = s.testIndex := rfl
@[simp] theorem pwmWrite_dirA (c : Channel) (v : Half) (s : State) :
    (pwmWrite c v s).dirA = s.dirA := rfl
@[simp] theorem pwmWrite_dirB (c : Channel) (v : Half) (s : State) :
    (pwmWrite c v s).dirB = s.dirB := rfl
@[simp] theorem pwmWrite_en (c : Channel) (v : Half) (s : State) :
    (pwmWrite c v s).en = s.en := rfl
@[simp] theorem pwmWrite_pwmVal (c : Channel) (v : Half) (s : State) :
    (pwmWrite c v s).pwmVal = s.pwmVal.set c v := rfl
@[simp] theorem pwmWrite_pwmUpd (c : Channel) (v : Half) (s : State) :
    (pwmWrite c v s).pwmUpd = s.pwmUpd.set c true := rfl
@[simp] theorem pwmWrite_respValid (c : Channel) (v : Half) (s : State) :
    (pwmWrite c v s).respValid = s.respValid := rfl
@[simp] theorem pwmWrite_respWord (c : Channel) (v : Half) (s : State) :
    (pwmWrite c v s).respWord = s.respWord := rfl
@[simp] theorem pwmWrite_trace (c : Channel) (v : Half) (s : State) :
    (pwmWrite c v s).trace = s.trace ++ [.pwm c v] := rfl
@[simp] theorem pwmWrite_cfg (c : Channel) (v : Half) (s : State) :
    (pwmWrite c v s).cfg = s.cfg := rfl
@[simp] theorem pwmWrite_inputs (c : Channel) (v : Half) (s : State) :
    (pwmWrite c v s).inputs = s.inputs := rfl
@[simp] theorem pwmWrite_draws (c : Channel) (v : Half) (s : State) :
    (pwmWrite c v s).draws = s.draws := rfl

@[simp] theorem setRespWord_speedTgt (w : Word) (s : State) :
    (setRespWord w s).speedTgt = s.speedTgt := rfl
@[simp] theorem setRespWord_speedCur (w : Word) (s : State) :
    (setRespWord w s).speedCur = s.speedCur := rfl
@[simp] theorem setRespWord_currentRaw (w : Word) (s : State) :
    (setRespWord w s).currentRaw = s.currentRaw := rfl
@[simp] theorem setRespWord_filt (w : Word) (s : State) :
    (setRespWord w s).filt = s.filt := rfl
@[simp] theorem setRespWord_rampRate (w : Word) (s : State) :
    (setRespWord w s).rampRate = s.rampRate := rfl
@[simp] theorem setRespWord_msCount (w : Word) (s : State) :
    (setRespWord w s).msCount = s.msCount := rfl
@[simp] theorem setRespWord_holdCount (w : Word) (s : State) :
    (setRespWord w s).holdCount = s.holdCount := rfl
@[simp] theorem setRespWord_testActive (w : Word) (s : State) :
    (setRespWord w s).testActive = s.testActive := rfl
@[simp] theorem setRespWord_testIndex (w : Word) (s : State) :
    (setRespWord w s).testIndex = s.testIndex := rfl
@[simp] theorem setRespWord_dirA (w : Word) (s : State) :
    (setRespWord w s).dirA = s.dirA := rfl
@[simp] theorem setRespWord_dirB (w : Word) (s : State) :
    (setRespWord w s).dirB = s.dirB := rfl
@[simp] theorem setRespWord_en (w : Word) (s : State) :
    (setRespWord w s).en = s.en := rfl
@[simp] theorem setRespWord_pwmVal (w : Word) (s : State) :
    (setRespWord w s).pwmVal = s.pwmVal := rfl
@[simp] theorem setRespWord_pwmUpd (w : Word) (s : State) :
    (setRespWord w s).pwmUpd = s.pwmUpd := rfl
@[simp] theorem setRespWord_respValid (w : Word) (s : State) :
    (setRespWord w s).respValid = s.respValid := rfl
@[simp] theorem setRespWord_respWord (w : Word) (s : State) :
    (setRespWord w s).respWord = w := rfl
@[simp] theorem setRespWord_trace (w : Word) (s : State) :
    (setRespWord w s).trace = s.trace := rfl
@[simp] theorem setRespWord_cfg (w : Word) (s : State) :
    (setRespWord w s).cfg = s.cfg := rfl
@[simp] theorem setRespWord_inputs (w : Word) (s : State) :
    (setRespWord w s).inputs = s.inputs := rfl
@[simp] theorem setRespWord_draws (w : Word) (s : State) :
    (setRespWord w s).draws = s.draws := rfl

@[simp] theorem setRespValid_speedTgt (b : Bool) (s : State) :
    (setRespValid b s).speedTgt = s.speedTgt := rfl
@[simp] theorem setRespValid_speedCur (b : Bool) (s : State) :
    (setRespValid b s).speedCur = s.speedCur := rfl
@[simp] theorem setRespValid_currentRaw (b : Bool) (s : State) :
    (setRespValid b s).currentRaw = s.currentRaw := rfl
@[simp] theorem setRespValid_filt (b : Bool) (s : State) :
    (setRespValid b s).filt = s.filt := rfl
@[simp] theorem setRespValid_rampRate (b : Bool) (s : State) :
    (setRespValid b s).rampRate = s.rampRate := rfl
@[simp] theorem setRespValid_msCount (b : Bool) (s : State) :
    (setRespValid b s).msCount = s.msCount := rfl
@[simp] theorem setRespValid_holdCount (b : Bool) (s : State) :
    (setRespValid b s).holdCount = s.holdCount := rfl
@[simp] theorem setRespValid_testActive (b : Bool) (s : State) :
    (setRespValid b s).testActive = s.testActive := rfl
@[simp] theorem setRespValid_testIndex (b : Bool) (s : State) :
    (setRespValid b s).testIndex = s.testIndex := rfl
@[simp] theorem setRespValid_dirA (b : Bool) (s : State) :
    (setRespValid b s).dirA = s.dirA := rfl
@[simp] theorem setRespValid_dirB (b : Bool) (s : State) :
    (setRespValid b s).dirB = s.dirB := rfl
@[simp] theorem setRespValid_en (b : Bool) (s : State) :
    (setRespValid b s).en = s.en := rfl
@[simp] theorem setRespValid_pwmVal (b : Bool) (s : State) :
    (setRespValid b s).pwmVal = s.pwmVal := rfl
@[simp] theorem setRespValid_pwmUpd (b : Bool) (s : State) :
    (setRespValid b s).pwmUpd = s.pwmUpd := rfl
@[simp] theorem setRespValid_respValid (b : Bool) (s : State) :
    (setRespValid b s).respValid = b := rfl
@[simp] theorem setRespValid_respWord (b : Bool) (s : State) :
    (setRespValid b s).respWord = s.respWord := rfl
@[simp] theorem setRespValid_trace (b : Bool) (s : State) :
    (setRespValid b s).trace = s.trace := rfl
@[simp] theorem setRespValid_cfg (b : Bool) (s : State) :
    (setRespValid b s).cfg = s.cfg := rfl
@[simp] theorem setRespValid_inputs (b : Bool) (s : State) :
    (setRespValid b s).inputs = s.inputs := rfl
@[simp] theorem setRespValid_draws (b : Bool) (s : State) :
    (setRespValid b s).draws = s.draws := rfl

@[simp] theorem beginCycle_speedTgt (s : State) :
    (beginCycle s).speedTgt = s.speedTgt := rfl
@[simp] theorem beginCycle_speedCur (s : State) :
    (beginCycle s).speedCur = s.speedCur := rfl
@[simp] theorem beginCycle_currentRaw (s : State) :
    (beginCycle s).currentRaw = s.currentRaw := rfl
@[simp] theorem beginCycle_filt (s : State) :
    (beginCycle s).filt = s.filt := rfl
@[simp] theorem beginCycle_rampRate (s : State) :
    (beginCycle s).rampRate = s.rampRate := rfl
@[simp] theorem beginCycle_msCount (s : State) :
    (beginCycle s).msCount = s.msCount := rfl
@[simp] theorem beginCycle_holdCount (s : State) :
    (beginCycle s).holdCount = s.holdCount := rfl
@[simp] theorem beginCycle_testActive (s : State) :
    (beginCycle s).testActive = s.testActive := rfl
@[simp] theorem beginCycle_testIndex (s : State) :
    (beginCycle s).testIndex = s.testIndex := rfl
@[simp] theorem beginCycle_dirA (s : State) :
    (beginCycle s).dirA = s.dirA := rfl
@[simp] theorem beginCycle_dirB (s : State) :
    (beginCycle s).dirB = s.dirB := rfl
@[simp] theorem beginCycle_en (s : State) :
    (beginCycle s).en = s.en := rfl
@[simp] theorem beginCycle_pwmVal (s : State) :
    (beginCycle s).pwmVal = s.pwmVal := rfl
@[simp] theorem beginCycle_pwmUpd (s : State) :
    (beginCycle s).pwmUpd = ⟨false, false, false, false⟩ := rfl
@[simp] theorem beginCycle_respValid (s : State) :
    (beginCycle s).respValid = s.respValid := rfl
@[simp] theorem beginCycle_respWord (s : State) :
    (beginCycle s).respWord = s.respWord := rfl
@[simp] theorem beginCycle_trace (s : State) :
    (beginCycle s).trace = [] := rfl
@[simp] theorem beginCycle_cfg (s : State) :
    (beginCycle s).cfg = s.cfg := rfl
@[simp] theorem beginCycle_inputs (s : State) :
    (beginCycle s).inputs = s.inputs := rfl
@[simp] theorem beginCycle_draws (s : State) :
    (beginCycle s).draws = s.draws := rfl

end Machine

end Sys2Proof
end

