-- ==== Sys2Proof/Laws/Frames.lean ====
section
/-! SUPPORT. The frame of every shared operation, one simp lemma per register it does not write:
the H-bridge primitives and the ramp leave servo state, the timebase rate, the response and the
configuration; the servo operations leave every motor register. The proofs go through the register
operations' own lemmas (Laws/State.lean). -/

namespace Sys2Proof.Machine

@[simp] theorem applySpeed_speedTgt (m : Motor) (v : Int) (s : State) :
    (applySpeed m v s).speedTgt = s.speedTgt := by
  unfold applySpeed hbRunCW hbRunCCW hbCoast; split_ifs <;> rfl

@[simp] theorem applySpeed_speedCur (m : Motor) (v : Int) (s : State) :
    (applySpeed m v s).speedCur = s.speedCur := by
  unfold applySpeed hbRunCW hbRunCCW hbCoast; split_ifs <;> rfl

@[simp] theorem applySpeed_currentRaw (m : Motor) (v : Int) (s : State) :
    (applySpeed m v s).currentRaw = s.currentRaw := by
  unfold applySpeed hbRunCW hbRunCCW hbCoast; split_ifs <;> rfl

@[simp] theorem applySpeed_filt (m : Motor) (v : Int) (s : State) :
    (applySpeed m v s).filt = s.filt := by
  unfold applySpeed hbRunCW hbRunCCW hbCoast; split_ifs <;> rfl

@[simp] theorem applySpeed_rampRate (m : Motor) (v : Int) (s : State) :
    (applySpeed m v s).rampRate = s.rampRate := by
  unfold applySpeed hbRunCW hbRunCCW hbCoast; split_ifs <;> rfl

@[simp] theorem applySpeed_msCount (m : Motor) (v : Int) (s : State) :
    (applySpeed m v s).msCount = s.msCount := by
  unfold applySpeed hbRunCW hbRunCCW hbCoast; split_ifs <;> rfl

@[simp] theorem applySpeed_holdCount (m : Motor) (v : Int) (s : State) :
    (applySpeed m v s).holdCount = s.holdCount := by
  unfold applySpeed hbRunCW hbRunCCW hbCoast; split_ifs <;> rfl

@[simp] theorem applySpeed_testActive (m : Motor) (v : Int) (s : State) :
    (applySpeed m v s).testActive = s.testActive := by
  unfold applySpeed hbRunCW hbRunCCW hbCoast; split_ifs <;> rfl

@[simp] theorem applySpeed_testIndex (m : Motor) (v : Int) (s : State) :
    (applySpeed m v s).testIndex = s.testIndex := by
  unfold applySpeed hbRunCW hbRunCCW hbCoast; split_ifs <;> rfl

@[simp] theorem applySpeed_respValid (m : Motor) (v : Int) (s : State) :
    (applySpeed m v s).respValid = s.respValid := by
  unfold applySpeed hbRunCW hbRunCCW hbCoast; split_ifs <;> rfl

@[simp] theorem applySpeed_respWord (m : Motor) (v : Int) (s : State) :
    (applySpeed m v s).respWord = s.respWord := by
  unfold applySpeed hbRunCW hbRunCCW hbCoast; split_ifs <;> rfl

@[simp] theorem applySpeed_cfg (m : Motor) (v : Int) (s : State) :
    (applySpeed m v s).cfg = s.cfg := by
  unfold applySpeed hbRunCW hbRunCCW hbCoast; split_ifs <;> rfl

@[simp] theorem applySpeed_inputs (m : Motor) (v : Int) (s : State) :
    (applySpeed m v s).inputs = s.inputs := by
  unfold applySpeed hbRunCW hbRunCCW hbCoast; split_ifs <;> rfl

@[simp] theorem applySpeed_draws (m : Motor) (v : Int) (s : State) :
    (applySpeed m v s).draws = s.draws := by
  unfold applySpeed hbRunCW hbRunCCW hbCoast; split_ifs <;> rfl

@[simp] theorem sampleMotor_speedTgt (x : PerMotor Half) (m : Motor) (s : State) :
    (sampleMotor x m s).speedTgt = s.speedTgt := by
  rfl

@[simp] theorem sampleMotor_speedCur (x : PerMotor Half) (m : Motor) (s : State) :
    (sampleMotor x m s).speedCur = s.speedCur := by
  rfl

@[simp] theorem sampleMotor_rampRate (x : PerMotor Half) (m : Motor) (s : State) :
    (sampleMotor x m s).rampRate = s.rampRate := by
  rfl

@[simp] theorem sampleMotor_msCount (x : PerMotor Half) (m : Motor) (s : State) :
    (sampleMotor x m s).msCount = s.msCount := by
  rfl

@[simp] theorem sampleMotor_holdCount (x : PerMotor Half) (m : Motor) (s : State) :
    (sampleMotor x m s).holdCount = s.holdCount := by
  rfl

@[simp] theorem sampleMotor_testActive (x : PerMotor Half) (m : Motor) (s : State) :
    (sampleMotor x m s).testActive = s.testActive := by
  rfl

@[simp] theorem sampleMotor_testIndex (x : PerMotor Half) (m : Motor) (s : State) :
    (sampleMotor x m s).testIndex = s.testIndex := by
  rfl

@[simp] theorem sampleMotor_dirA (x : PerMotor Half) (m : Motor) (s : State) :
    (sampleMotor x m s).dirA = s.dirA := by
  rfl

@[simp] theorem sampleMotor_dirB (x : PerMotor Half) (m : Motor) (s : State) :
    (sampleMotor x m s).dirB = s.dirB := by
  rfl

@[simp] theorem sampleMotor_en (x : PerMotor Half) (m : Motor) (s : State) :
    (sampleMotor x m s).en = s.en := by
  rfl

@[simp] theorem sampleMotor_pwmVal (x : PerMotor Half) (m : Motor) (s : State) :
    (sampleMotor x m s).pwmVal = s.pwmVal := by
  rfl

@[simp] theorem sampleMotor_pwmUpd (x : PerMotor Half) (m : Motor) (s : State) :
    (sampleMotor x m s).pwmUpd = s.pwmUpd := by
  rfl

@[simp] theorem sampleMotor_respValid (x : PerMotor Half) (m : Motor) (s : State) :
    (sampleMotor x m s).respValid = s.respValid := by
  rfl

@[simp] theorem sampleMotor_respWord (x : PerMotor Half) (m : Motor) (s : State) :
    (sampleMotor x m s).respWord = s.respWord := by
  rfl

@[simp] theorem sampleMotor_trace (x : PerMotor Half) (m : Motor) (s : State) :
    (sampleMotor x m s).trace = s.trace := by
  rfl

@[simp] theorem sampleMotor_cfg (x : PerMotor Half) (m : Motor) (s : State) :
    (sampleMotor x m s).cfg = s.cfg := by
  rfl

@[simp] theorem sampleMotor_inputs (x : PerMotor Half) (m : Motor) (s : State) :
    (sampleMotor x m s).inputs = s.inputs := by
  rfl

@[simp] theorem sampleMotor_draws (x : PerMotor Half) (m : Motor) (s : State) :
    (sampleMotor x m s).draws = s.draws := by
  rfl

@[simp] theorem convergeMotor_speedTgt (m : Motor) (s : State) :
    (convergeMotor m s).speedTgt = s.speedTgt := by
  unfold convergeMotor; dsimp only; split_ifs <;> simp

@[simp] theorem convergeMotor_currentRaw (m : Motor) (s : State) :
    (convergeMotor m s).currentRaw = s.currentRaw := by
  unfold convergeMotor; dsimp only; split_ifs <;> simp

@[simp] theorem convergeMotor_filt (m : Motor) (s : State) :
    (convergeMotor m s).filt = s.filt := by
  unfold convergeMotor; dsimp only; split_ifs <;> simp

@[simp] theorem convergeMotor_rampRate (m : Motor) (s : State) :
    (convergeMotor m s).rampRate = s.rampRate := by
  unfold convergeMotor; dsimp only; split_ifs <;> simp

@[simp] theorem convergeMotor_msCount (m : Motor) (s : State) :
    (convergeMotor m s).msCount = s.msCount := by
  unfold convergeMotor; dsimp only; split_ifs <;> simp

@[simp] theorem convergeMotor_holdCount (m : Motor) (s : State) :
    (convergeMotor m s).holdCount = s.holdCount := by
  unfold convergeMotor; dsimp only; split_ifs <;> simp

@[simp] theorem convergeMotor_testActive (m : Motor) (s : State) :
    (convergeMotor m s).testActive = s.testActive := by
  unfold convergeMotor; dsimp only; split_ifs <;> simp

@[simp] theorem convergeMotor_testIndex (m : Motor) (s : State) :
    (convergeMotor m s).testIndex = s.testIndex := by
  unfold convergeMotor; dsimp only; split_ifs <;> simp

@[simp] theorem convergeMotor_respValid (m : Motor) (s : State) :
    (convergeMotor m s).respValid = s.respValid := by
  unfold convergeMotor; dsimp only; split_ifs <;> simp

@[simp] theorem convergeMotor_respWord (m : Motor) (s : State) :
    (convergeMotor m s).respWord = s.respWord := by
  unfold convergeMotor; dsimp only; split_ifs <;> simp

@[simp] theorem convergeMotor_cfg (m : Motor) (s : State) :
    (convergeMotor m s).cfg = s.cfg := by
  unfold convergeMotor; dsimp only; split_ifs <;> simp

@[simp] theorem convergeMotor_inputs (m : Motor) (s : State) :
    (convergeMotor m s).inputs = s.inputs := by
  unfold convergeMotor; dsimp only; split_ifs <;> simp

@[simp] theorem convergeMotor_draws (m : Motor) (s : State) :
    (convergeMotor m s).draws = s.draws := by
  unfold convergeMotor; dsimp only; split_ifs <;> simp

@[simp] theorem rampMotor_speedTgt (x : PerMotor Half) (m : Motor) (s : State) :
    (rampMotor x m s).speedTgt = s.speedTgt := by
  simp [rampMotor]

@[simp] theorem rampMotor_rampRate (x : PerMotor Half) (m : Motor) (s : State) :
    (rampMotor x m s).rampRate = s.rampRate := by
  simp [rampMotor]

@[simp] theorem rampMotor_msCount (x : PerMotor Half) (m : Motor) (s : State) :
    (rampMotor x m s).msCount = s.msCount := by
  simp [rampMotor]

@[simp] theorem rampMotor_holdCount (x : PerMotor Half) (m : Motor) (s : State) :
    (rampMotor x m s).holdCount = s.holdCount := by
  simp [rampMotor]

@[simp] theorem rampMotor_testActive (x : PerMotor Half) (m : Motor) (s : State) :
    (rampMotor x m s).testActive = s.testActive := by
  simp [rampMotor]

@[simp] theorem rampMotor_testIndex (x : PerMotor Half) (m : Motor) (s : State) :
    (rampMotor x m s).testIndex = s.testIndex := by
  simp [rampMotor]

@[simp] theorem rampMotor_respValid (x : PerMotor Half) (m : Motor) (s : State) :
    (rampMotor x m s).respValid = s.respValid := by
  simp [rampMotor]

@[simp] theorem rampMotor_respWord (x : PerMotor Half) (m : Motor) (s : State) :
    (rampMotor x m s).respWord = s.respWord := by
  simp [rampMotor]

@[simp] theorem rampMotor_cfg (x : PerMotor Half) (m : Motor) (s : State) :
    (rampMotor x m s).cfg = s.cfg := by
  simp [rampMotor]

@[simp] theorem rampMotor_inputs (x : PerMotor Half) (m : Motor) (s : State) :
    (rampMotor x m s).inputs = s.inputs := by
  simp [rampMotor]

@[simp] theorem rampMotor_draws (x : PerMotor Half) (m : Motor) (s : State) :
    (rampMotor x m s).draws = s.draws := by
  simp [rampMotor]

@[simp] theorem rampTick_speedTgt (x : PerMotor Half) (s : State) :
    (rampTick x s).speedTgt = s.speedTgt := by
  simp [rampTick]

@[simp] theorem rampTick_rampRate (x : PerMotor Half) (s : State) :
    (rampTick x s).rampRate = s.rampRate := by
  simp [rampTick]

@[simp] theorem rampTick_msCount (x : PerMotor Half) (s : State) :
    (rampTick x s).msCount = s.msCount := by
  simp [rampTick]

@[simp] theorem rampTick_holdCount (x : PerMotor Half) (s : State) :
    (rampTick x s).holdCount = s.holdCount := by
  simp [rampTick]

@[simp] theorem rampTick_testActive (x : PerMotor Half) (s : State) :
    (rampTick x s).testActive = s.testActive := by
  simp [rampTick]

@[simp] theorem rampTick_testIndex (x : PerMotor Half) (s : State) :
    (rampTick x s).testIndex = s.testIndex := by
  simp [rampTick]

@[simp] theorem rampTick_respValid (x : PerMotor Half) (s : State) :
    (rampTick x s).respValid = s.respValid := by
  simp [rampTick]

@[simp] theorem rampTick_respWord (x : PerMotor Half) (s : State) :
    (rampTick x s).respWord = s.respWord := by
  simp [rampTick]

@[simp] theorem rampTick_cfg (x : PerMotor Half) (s : State) :
    (rampTick x s).cfg = s.cfg := by
  simp [rampTick]

@[simp] theorem rampTick_inputs (x : PerMotor Half) (s : State) :
    (rampTick x s).inputs = s.inputs := by
  simp [rampTick]

@[simp] theorem rampTick_draws (x : PerMotor Half) (s : State) :
    (rampTick x s).draws = s.draws := by
  simp [rampTick]

@[simp] theorem timebaseStep_speedTgt (x : PerMotor Half) (s : State) :
    (timebaseStep x s).speedTgt = s.speedTgt := by
  unfold timebaseStep; split_ifs <;> simp

@[simp] theorem timebaseStep_rampRate (x : PerMotor Half) (s : State) :
    (timebaseStep x s).rampRate = s.rampRate := by
  unfold timebaseStep; split_ifs <;> simp

@[simp] theorem timebaseStep_holdCount (x : PerMotor Half) (s : State) :
    (timebaseStep x s).holdCount = s.holdCount := by
  unfold timebaseStep; split_ifs <;> simp

@[simp] theorem timebaseStep_testActive (x : PerMotor Half) (s : State) :
    (timebaseStep x s).testActive = s.testActive := by
  unfold timebaseStep; split_ifs <;> simp

@[simp] theorem timebaseStep_testIndex (x : PerMotor Half) (s : State) :
    (timebaseStep x s).testIndex = s.testIndex := by
  unfold timebaseStep; split_ifs <;> simp

@[simp] theorem timebaseStep_respValid (x : PerMotor Half) (s : State) :
    (timebaseStep x s).respValid = s.respValid := by
  unfold timebaseStep; split_ifs <;> simp

@[simp] theorem timebaseStep_respWord (x : PerMotor Half) (s : State) :
    (timebaseStep x s).respWord = s.respWord := by
  unfold timebaseStep; split_ifs <;> simp

@[simp] theorem timebaseStep_cfg (x : PerMotor Half) (s : State) :
    (timebaseStep x s).cfg = s.cfg := by
  unfold timebaseStep; split_ifs <;> simp

@[simp] theorem timebaseStep_inputs (x : PerMotor Half) (s : State) :
    (timebaseStep x s).inputs = s.inputs := by
  unfold timebaseStep; split_ifs <;> simp

@[simp] theorem timebaseStep_draws (x : PerMotor Half) (s : State) :
    (timebaseStep x s).draws = s.draws := by
  unfold timebaseStep; split_ifs <;> simp

@[simp] theorem servoApply_speedTgt (v : Servo) (a : Int) (s : State) :
    (servoApply v a s).speedTgt = s.speedTgt := by
  rfl

@[simp] theorem servoApply_speedCur (v : Servo) (a : Int) (s : State) :
    (servoApply v a s).speedCur = s.speedCur := by
  rfl

@[simp] theorem servoApply_currentRaw (v : Servo) (a : Int) (s : State) :
    (servoApply v a s).currentRaw = s.currentRaw := by
  rfl

@[simp] theorem servoApply_filt (v : Servo) (a : Int) (s : State) :
    (servoApply v a s).filt = s.filt := by
  rfl

@[simp] theorem servoApply_rampRate (v : Servo) (a : Int) (s : State) :
    (servoApply v a s).rampRate = s.rampRate := by
  rfl

@[simp] theorem servoApply_msCount (v : Servo) (a : Int) (s : State) :
    (servoApply v a s).msCount = s.msCount := by
  rfl

@[simp] theorem servoApply_testActive (v : Servo) (a : Int) (s : State) :
    (servoApply v a s).testActive = s.testActive := by
  rfl

@[simp] theorem servoApply_testIndex (v : Servo) (a : Int) (s : State) :
    (servoApply v a s).testIndex = s.testIndex := by
  rfl

@[simp] theorem servoApply_dirA (v : Servo) (a : Int) (s : State) :
    (servoApply v a s).dirA = s.dirA := by
  rfl

@[simp] theorem servoApply_dirB (v : Servo) (a : Int) (s : State) :
    (servoApply v a s).dirB = s.dirB := by
  rfl

@[simp] theorem servoApply_en (v : Servo) (a : Int) (s : State) :
    (servoApply v a s).en = s.en := by
  rfl

@[simp] theorem servoApply_respValid (v : Servo) (a : Int) (s : State) :
    (servoApply v a s).respValid = s.respValid := by
  rfl

@[simp] theorem servoApply_respWord (v : Servo) (a : Int) (s : State) :
    (servoApply v a s).respWord = s.respWord := by
  rfl

@[simp] theorem servoApply_cfg (v : Servo) (a : Int) (s : State) :
    (servoApply v a s).cfg = s.cfg := by
  rfl

@[simp] theorem servoApply_inputs (v : Servo) (a : Int) (s : State) :
    (servoApply v a s).inputs = s.inputs := by
  rfl

@[simp] theorem servoApply_draws (v : Servo) (a : Int) (s : State) :
    (servoApply v a s).draws = s.draws := by
  rfl

@[simp] theorem servoTestAdvance_speedTgt (v : Servo) (s : State) :
    (servoTestAdvance v s).speedTgt = s.speedTgt := by
  unfold servoTestAdvance; dsimp only; split_ifs <;> rfl

@[simp] theorem servoTestAdvance_speedCur (v : Servo) (s : State) :
    (servoTestAdvance v s).speedCur = s.speedCur := by
  unfold servoTestAdvance; dsimp only; split_ifs <;> rfl

@[simp] theorem servoTestAdvance_currentRaw (v : Servo) (s : State) :
    (servoTestAdvance v s).currentRaw = s.currentRaw := by
  unfold servoTestAdvance; dsimp only; split_ifs <;> rfl

@[simp] theorem servoTestAdvance_filt (v : Servo) (s : State) :
    (servoTestAdvance v s).filt = s.filt := by
  unfold servoTestAdvance; dsimp only; split_ifs <;> rfl

@[simp] theorem servoTestAdvance_rampRate (v : Servo) (s : State) :
    (servoTestAdvance v s).rampRate = s.rampRate := by
  unfold servoTestAdvance; dsimp only; split_ifs <;> rfl

@[simp] theorem servoTestAdvance_msCount (v : Servo) (s : State) :
    (servoTestAdvance v s).msCount = s.msCount := by
  unfold servoTestAdvance; dsimp only; split_ifs <;> rfl

@[simp] theorem servoTestAdvance_dirA (v : Servo) (s : State) :
    (servoTestAdvance v s).dirA = s.dirA := by
  unfold servoTestAdvance; dsimp only; split_ifs <;> rfl

@[simp] theorem servoTestAdvance_dirB (v : Servo) (s : State) :
    (servoTestAdvance v s).dirB = s.dirB := by
  unfold servoTestAdvance; dsimp only; split_ifs <;> rfl

@[simp] theorem servoTestAdvance_en (v : Servo) (s : State) :
    (servoTestAdvance v s).en = s.en := by
  unfold servoTestAdvance; dsimp only; split_ifs <;> rfl

@[simp] theorem servoTestAdvance_respValid (v : Servo) (s : State) :
    (servoTestAdvance v s).respValid = s.respValid := by
  unfold servoTestAdvance; dsimp only; split_ifs <;> rfl

@[simp] theorem servoTestAdvance_respWord (v : Servo) (s : State) :
    (servoTestAdvance v s).respWord = s.respWord := by
  unfold servoTestAdvance; dsimp only; split_ifs <;> rfl

@[simp] theorem servoTestAdvance_cfg (v : Servo) (s : State) :
    (servoTestAdvance v s).cfg = s.cfg := by
  unfold servoTestAdvance; dsimp only; split_ifs <;> rfl

@[simp] theorem servoTestAdvance_inputs (v : Servo) (s : State) :
    (servoTestAdvance v s).inputs = s.inputs := by
  unfold servoTestAdvance; dsimp only; split_ifs <;> rfl

@[simp] theorem servoTestAdvance_draws (v : Servo) (s : State) :
    (servoTestAdvance v s).draws = s.draws := by
  unfold servoTestAdvance; dsimp only; split_ifs <;> rfl

@[simp] theorem servoStrobeStep_speedTgt (v : Servo) (s : State) :
    (servoStrobeStep v s).speedTgt = s.speedTgt := by
  unfold servoStrobeStep; dsimp only; split_ifs <;> simp

@[simp] theorem servoStrobeStep_speedCur (v : Servo) (s : State) :
    (servoStrobeStep v s).speedCur = s.speedCur := by
  unfold servoStrobeStep; dsimp only; split_ifs <;> simp

@[simp] theorem servoStrobeStep_currentRaw (v : Servo) (s : State) :
    (servoStrobeStep v s).currentRaw = s.currentRaw := by
  unfold servoStrobeStep; dsimp only; split_ifs <;> simp

@[simp] theorem servoStrobeStep_filt (v : Servo) (s : State) :
    (servoStrobeStep v s).filt = s.filt := by
  unfold servoStrobeStep; dsimp only; split_ifs <;> simp

@[simp] theorem servoStrobeStep_rampRate (v : Servo) (s : State) :
    (servoStrobeStep v s).rampRate = s.rampRate := by
  unfold servoStrobeStep; dsimp only; split_ifs <;> simp

@[simp] theorem servoStrobeStep_msCount (v : Servo) (s : State) :
    (servoStrobeStep v s).msCount = s.msCount := by
  unfold servoStrobeStep; dsimp only; split_ifs <;> simp

@[simp] theorem servoStrobeStep_dirA (v : Servo) (s : State) :
    (servoStrobeStep v s).dirA = s.dirA := by
  unfold servoStrobeStep; dsimp only; split_ifs <;> simp

@[simp] theorem servoStrobeStep_dirB (v : Servo) (s : State) :
    (servoStrobeStep v s).dirB = s.dirB := by
  unfold servoStrobeStep; dsimp only; split_ifs <;> simp

@[simp] theorem servoStrobeStep_en (v : Servo) (s : State) :
    (servoStrobeStep v s).en = s.en := by
  unfold servoStrobeStep; dsimp only; split_ifs <;> simp

@[simp] theorem servoStrobeStep_respValid (v : Servo) (s : State) :
    (servoStrobeStep v s).respValid = s.respValid := by
  unfold servoStrobeStep; dsimp only; split_ifs <;> simp

@[simp] theorem servoStrobeStep_respWord (v : Servo) (s : State) :
    (servoStrobeStep v s).respWord = s.respWord := by
  unfold servoStrobeStep; dsimp only; split_ifs <;> simp

@[simp] theorem servoStrobeStep_cfg (v : Servo) (s : State) :
    (servoStrobeStep v s).cfg = s.cfg := by
  unfold servoStrobeStep; dsimp only; split_ifs <;> simp

@[simp] theorem servoStrobeStep_inputs (v : Servo) (s : State) :
    (servoStrobeStep v s).inputs = s.inputs := by
  unfold servoStrobeStep; dsimp only; split_ifs <;> simp

@[simp] theorem servoStrobeStep_draws (v : Servo) (s : State) :
    (servoStrobeStep v s).draws = s.draws := by
  unfold servoStrobeStep; dsimp only; split_ifs <;> simp

end Sys2Proof.Machine
end

