-- ==== Sys2Proof/Laws/Ops.lean ====
section
/-! SUPPORT. What each shared operation does, said once: the clamps, `ApplySpeed` by the sign of
its speed, a motor's convergence step by its three cases, the timebase and the servo strobe step
by theirs, and the other motor left alone. -/

namespace Sys2Proof.Machine

/-- Inside its bounds `clamp` is the identity (R13). -/
theorem clamp_of_mem {v lo hi : Int} (h1 : lo ≤ v) (h2 : v ≤ hi) : clamp v lo hi = v := by
  unfold clamp
  rw [if_neg (by omega), if_neg (by omega)]

/-- `clamp` lands within its bounds (R13). -/
theorem clamp_mem {v lo hi : Int} (h : lo ≤ hi) : lo ≤ clamp v lo hi ∧ clamp v lo hi ≤ hi := by
  unfold clamp
  split_ifs <;> omega

/-- A speed operand's magnitude as a natural number (R171). -/
theorem mag_zextImm (imm : Half) : mag (zextImm imm) = ((min imm.toNat 100 : Nat) : Int) := by
  simp [mag, zextImm, Config.speedMax]

/-- A natural number as a 16-bit register's contents. -/
theorem halfOfInt_natCast (n : Nat) : halfOfInt (n : Int) = BitVec.ofNat 16 n := by
  simp [halfOfInt]

/-- A number that fits comes back from a 16-bit register (R12). -/
theorem toNat_halfOfInt {v : Int} (h0 : 0 ≤ v) (h1 : v ≤ 65535) : ((halfOfInt v).toNat : Int) = v := by
  obtain ⟨n, rfl⟩ := Int.eq_ofNat_of_zero_le h0
  rw [halfOfInt_natCast]
  simp only [BitVec.toNat_ofNat]
  omega

/-- A speed that fits comes back from its register (R12). -/
theorem toInt_speedOfInt {v : Int} (h0 : -128 ≤ v) (h1 : v ≤ 127) : (speedOfInt v).toInt = v := by
  unfold speedOfInt
  rw [BitVec.toInt_ofInt]
  exact Int.bmod_eq_of_le (by omega) (by omega)

/-- The reading of a speed register fits eight bits. -/
theorem speed_bounds (v : Speed) : -128 ≤ v.toInt ∧ v.toInt ≤ 127 := by
  have h1 := BitVec.le_toInt v
  have h2 := BitVec.toInt_lt (x := v)
  norm_num at h1 h2
  omega

/-- `ApplySpeed` of a forward speed is CW with that duty (R142, R147). -/
theorem applySpeed_pos {m : Motor} {v : Int} {s : State} (h : 0 < v) (h2 : v ≤ 100) :
    applySpeed m v s = pwmWrite (motorChannel m) (halfOfInt v) (pinWrite m true false true s) := by
  unfold applySpeed hbRunCW
  rw [if_pos h, clamp_of_mem (by omega) h2]

/-- `ApplySpeed` of a backward speed is CCW with its magnitude as the duty (R143, R147). -/
theorem applySpeed_neg {m : Motor} {v : Int} {s : State} (h : v < 0) (h2 : -100 ≤ v) :
    applySpeed m v s =
      pwmWrite (motorChannel m) (halfOfInt (-v)) (pinWrite m false true true s) := by
  unfold applySpeed hbRunCCW
  rw [if_neg (by omega), if_pos h, clamp_of_mem (by omega) (by omega)]

/-- `ApplySpeed` of 0 is COAST (R141, R147). -/
theorem applySpeed_zero {m : Motor} {s : State} :
    applySpeed m 0 s = pwmWrite (motorChannel m) 0 (pinWrite m false false false s) := rfl

/-- Whatever its speed, `ApplySpeed` is one of three pin patterns with a duty of 0..100, pins
written before the channel (R140, R147, R148). -/
theorem applySpeed_cases (m : Motor) (v : Int) (s : State) :
    (0 < v ∧ ∃ d, 0 ≤ d ∧ d ≤ 100 ∧
      applySpeed m v s = pwmWrite (motorChannel m) (halfOfInt d) (pinWrite m true false true s)) ∨
    (v < 0 ∧ ∃ d, 0 ≤ d ∧ d ≤ 100 ∧
      applySpeed m v s = pwmWrite (motorChannel m) (halfOfInt d) (pinWrite m false true true s)) ∨
    (v = 0 ∧
      applySpeed m v s = pwmWrite (motorChannel m) 0 (pinWrite m false false false s)) := by
  rcases lt_trichotomy v 0 with h | h | h
  · refine .inr (.inl ⟨h, clamp (-v) 0 100, (clamp_mem (by omega)).1, (clamp_mem (by omega)).2, ?_⟩)
    unfold applySpeed hbRunCCW
    rw [if_neg (by omega), if_pos h]
  · subst h
    exact .inr (.inr ⟨rfl, rfl⟩)
  · refine .inl ⟨h, clamp v 0 100, (clamp_mem (by omega)).1, (clamp_mem (by omega)).2, ?_⟩
    unfold applySpeed hbRunCW
    rw [if_pos h]

/-- Steps 2 and 3 of a tick for one motor: up by one, down by one, or nothing at all
(R224, R228). -/
theorem convergeMotor_cases (m : Motor) (s : State) :
    (curSpeed s m < tgtSpeed s m ∧ convergeMotor m s =
      applySpeed m (curSpeed s m + 1) (setSpeedCur m (speedOfInt (curSpeed s m + 1)) s)) ∨
    (tgtSpeed s m < curSpeed s m ∧ convergeMotor m s =
      applySpeed m (curSpeed s m - 1) (setSpeedCur m (speedOfInt (curSpeed s m - 1)) s)) ∨
    (curSpeed s m = tgtSpeed s m ∧ convergeMotor m s = s) := by
  rcases lt_trichotomy (curSpeed s m) (tgtSpeed s m) with h | h | h
  · exact .inl ⟨h, if_pos h⟩
  · refine .inr (.inr ⟨h, ?_⟩)
    unfold convergeMotor
    simp only [curSpeed, tgtSpeed] at h
    simp [h]
  · refine .inr (.inl ⟨h, ?_⟩)
    unfold convergeMotor
    simp only [curSpeed, tgtSpeed] at h ⊢
    rw [if_neg (by omega), if_pos h]

/-- The timebase: direct mode, a tick, or one more strobe counted (R220, R221). -/
theorem timebaseStep_cases (x : PerMotor Half) (s : State) :
    (s.rampRate = 0 ∧ timebaseStep x s = setMsCount 0 s) ∨
    (s.rampRate ≠ 0 ∧ s.rampRate.toNat ≤ s.msCount.toNat + 1 ∧
      timebaseStep x s = rampTick x (setMsCount 0 s)) ∨
    (s.rampRate ≠ 0 ∧ s.msCount.toNat + 1 < s.rampRate.toNat ∧
      timebaseStep x s = setMsCount (s.msCount + 1) s) := by
  unfold timebaseStep
  by_cases h : s.rampRate = 0
  · exact .inl ⟨h, if_pos h⟩
  · rw [if_neg h]
    by_cases h2 : s.rampRate.toNat ≤ s.msCount.toNat + 1
    · exact .inr (.inl ⟨h, h2, if_pos (decide_eq_true ⟨h, h2⟩)⟩)
    · refine .inr (.inr ⟨h, by omega, if_neg ?_⟩)
      simp only [tickDue, decide_eq_true_eq]
      exact fun hc => h2 hc.2

/-- The strobe step of a servo: a hold counts down, a hold is released, a sweep advances, or
nothing (R270). -/
theorem servoStrobeStep_cases (v : Servo) (s : State) :
    (1 < (s.holdCount.get v).toNat ∧
      servoStrobeStep v s = setHoldCount v (s.holdCount.get v - 1) s) ∨
    (s.holdCount.get v = 1 ∧
      servoStrobeStep v s = pwmWrite (servoChannel v) 0 (setHoldCount v 0 s)) ∨
    (s.holdCount.get v = 0 ∧ s.testActive.get v = true ∧
      servoStrobeStep v s = servoTestAdvance v s) ∨
    (s.holdCount.get v = 0 ∧ s.testActive.get v = false ∧ servoStrobeStep v s = s) := by
  unfold servoStrobeStep
  generalize s.holdCount.get v = n
  rcases Nat.lt_trichotomy n.toNat 1 with h | h | h
  · have h0 : n = 0 := BitVec.eq_of_toNat_eq (by simp; omega)
    subst h0
    rw [if_neg (by decide)]
    cases hb : s.testActive.get v
    · exact .inr (.inr (.inr ⟨rfl, rfl, if_neg (by decide)⟩))
    · exact .inr (.inr (.inl ⟨rfl, rfl, if_pos rfl⟩))
  · have h1 : n = 1 := BitVec.eq_of_toNat_eq (by simp; omega)
    subst h1
    exact .inr (.inl ⟨rfl, rfl⟩)
  · refine .inl ⟨h, ?_⟩
    rw [if_pos (by rw [BitVec.lt_def]; simp; omega)]
    refine if_neg fun hc => ?_
    have := congrArg BitVec.toNat hc
    rw [BitVec.toNat_sub_of_le (by rw [BitVec.le_def]; simp; omega)] at this
    simp at this
    omega

/-- The sweep's advance: its end, or its next point (R271). -/
theorem servoTestAdvance_cases (v : Servo) (s : State) :
    ((s.testIndex.get v).toNat = 2 * s.cfg.sweepN ∧
      servoTestAdvance v s = setTestIndex v 0 (setTestActive v false s)) ∨
    ((s.testIndex.get v).toNat ≠ 2 * s.cfg.sweepN ∧
      servoTestAdvance v s =
        servoApply v (testAngle s.cfg (s.testIndex.get v + 1).toNat)
          (setTestIndex v (s.testIndex.get v + 1) s)) := by
  unfold servoTestAdvance
  by_cases h : (s.testIndex.get v).toNat = 2 * s.cfg.sweepN
  · exact .inl ⟨h, if_pos h⟩
  · exact .inr ⟨h, if_neg h⟩

/-- A legal configuration's calibrations are monotone (R8, R39). -/
theorem monotone_of_wellFormed {c : Config} (h : c.WellFormed) (v : Servo) :
    (c.servoCal.get v).Monotone := by
  cases v
  · exact h.2.2.2.2.1.1
  · exact h.2.2.2.2.1.2

/-- `ServoDuty` lies within a monotone calibration, whatever the angle (R261). -/
theorem servoDuty_mem {c : Config} {v : Servo} (h : (c.servoCal.get v).Monotone) (a : Int) :
    (c.servoCal.get v).dmin ≤ (servoDuty c v a).toNat ∧
      (servoDuty c v a).toNat ≤ (c.servoCal.get v).dmax := by
  obtain ⟨h1, h2, h3⟩ := h
  have hc := clamp_mem (v := interpolate (c.servoCal.get v) (mountedAngle c v a))
    (lo := (c.servoCal.get v).dmin) (hi := (c.servoCal.get v).dmax) (by omega)
  have := toNat_halfOfInt (v := clamp (interpolate (c.servoCal.get v) (mountedAngle c v a))
    (c.servoCal.get v).dmin (c.servoCal.get v).dmax) (by omega) (by omega)
  unfold servoDuty
  dsimp only
  omega

/-- The settle time fits the hold counter (R8, R262). -/
theorem toNat_settle {c : Config} (h : c.WellFormed) : (halfOfInt c.settleMs).toNat = c.settleMs := by
  have h2 := h.2.2.2.2.2.1
  have := toNat_halfOfInt (v := (c.settleMs : Int)) (by omega) (by omega)
  omega

end Sys2Proof.Machine
end

