-- ==== Sys2Proof/Laws/Cycle.lean ====
section
/-! SUPPORT. What a cycle can do, said once: sampling its inputs, the command it performs, and
the four ways a step answers. -/

namespace Sys2Proof.Machine

/-- Sampling writes only the model's own queue and draw counter. -/
theorem afterSampling_eq (s : State) :
    afterSampling s =
      { s with inputs := (afterSampling s).inputs, draws := (afterSampling s).draws } := by
  unfold afterSampling
  cases s.inputs <;> rfl

/-- With a queued entry, the cycle's inputs are that entry. -/
theorem sampledInputs_cons {s : State} {inp : Inputs} {rest : List Inputs}
    (h : s.inputs = inp :: rest) : sampledInputs s = inp := by
  unfold sampledInputs
  rw [h]

/-- With a queued entry, sampling takes that entry off the queue. -/
theorem afterSampling_cons {s : State} {inp : Inputs} {rest : List Inputs}
    (h : s.inputs = inp :: rest) : afterSampling s = { s with inputs := rest } := by
  unfold afterSampling
  rw [h]

/-- A cycle that performs a command: no reset, a command presented, and it decodes. -/
theorem performed_some {inp : Inputs} {i : Instr} (h : performed inp = some i) :
    inp.rst = false ∧ inp.cmdValid = true ∧ decode inp.cmdWord = .ok i := by
  unfold performed at h
  split at h
  · rename_i hc
    cases hd : decode inp.cmdWord with
    | error e => rw [hd] at h; cases h
    | ok j => rw [hd] at h; cases h; exact ⟨hc.1, hc.2, rfl⟩
  · cases h

/-- Every command answers with a next state (R320, R324): no meaning stops. -/
theorem exec_answers (i : Instr) (s : State) : ∃ t, exec i s = .next t := by
  cases i with
  | servoSet v imm =>
    simp only [exec, execServoSet]
    split_ifs <;> exact ⟨_, rfl⟩
  | servoTest v =>
    simp only [exec, execServoTest]
    split_ifs <;> exact ⟨_, rfl⟩
  | _ => exact ⟨_, rfl⟩

/-- A cycle that performs a command runs it on what the autonomous operations left. -/
theorem runCycle_performed {inp : Inputs} {i : Instr} {s t : State} (h : performed inp = some i)
    (ht : exec i (autonomousPhase inp (beginCycle s)) = .next t) :
    runCycle inp s = .next (setRespValid true t) := by
  obtain ⟨h1, h2, h3⟩ := performed_some h
  simp only [runCycle, h1, commandPhase, h2, execute, h3, ht]
  rfl

/-- What a cycle can answer (R60): a reset; no command; a command performed; a word turned
away. -/
theorem runCycle_cases {inp : Inputs} {s t : State} (h : runCycle inp s = .next t) :
    (inp.rst = true ∧ performed inp = none ∧ t = resetState s) ∨
    (inp.rst = false ∧ inp.cmdValid = false ∧ performed inp = none ∧
      t = setRespValid false (autonomousPhase inp (beginCycle s))) ∨
    (∃ i u, inp.rst = false ∧ inp.cmdValid = true ∧ performed inp = some i ∧
      decode inp.cmdWord = .ok i ∧
      exec i (autonomousPhase inp (beginCycle s)) = .next u ∧ t = setRespValid true u) ∨
    (∃ e, inp.rst = false ∧ inp.cmdValid = true ∧ performed inp = none ∧
      decode inp.cmdWord = .error e ∧
      t = setRespValid true
        (reject e.status (fieldsOf inp.cmdWord).op (autonomousPhase inp (beginCycle s)))) := by
  unfold runCycle at h
  cases hr : inp.rst with
  | true =>
    rw [hr] at h
    cases h
    exact .inl ⟨rfl, by simp [performed, hr], rfl⟩
  | false =>
    rw [hr] at h
    simp only [Bool.false_eq_true, if_false, commandPhase] at h
    cases hv : inp.cmdValid with
    | false =>
      rw [hv] at h
      cases h
      exact .inr (.inl ⟨rfl, rfl, by simp [performed, hv], rfl⟩)
    | true =>
      rw [hv] at h
      simp only [if_true, execute] at h
      cases hd : decode inp.cmdWord with
      | ok i =>
        rw [hd] at h
        obtain ⟨u, hu⟩ := exec_answers i (autonomousPhase inp (beginCycle s))
        simp only [hu] at h
        cases h
        exact .inr (.inr (.inl ⟨i, u, rfl, rfl, by simp [performed, hr, hv, hd], rfl, hu, rfl⟩))
      | error e =>
        rw [hd] at h
        cases h
        exact .inr (.inr (.inr ⟨e, rfl, rfl, by simp [performed, hr, hv, hd], rfl, rfl⟩))

/-- A step that answers next: the configuration is legal and the sampled cycle ran (R8, R60). -/
theorem step_next {s t : State} (h : step s = .next t) :
    s.cfg.WellFormed ∧ runCycle (sampledInputs s) (afterSampling s) = .next t := by
  unfold step clockEdge at h
  split at h
  · exact ⟨‹_›, h⟩
  · cases h

/-- Under a legal configuration a step is the cycle of its sampled inputs. -/
theorem step_eq_runCycle {s : State} (h : s.cfg.WellFormed) :
    step s = runCycle (sampledInputs s) (afterSampling s) := if_pos h

end Sys2Proof.Machine
end

