-- ==== Sys2Proof/Laws/Banks.lean ====
section
/-! SUPPORT. The registers of one motor and of one servo taken together, and what each operation
does to them: an operation on one motor leaves the other motor's alone, its result depends on that
motor's own registers only, and likewise for the servos. -/

namespace Sys2Proof.Machine

/-- Everything motor `m` owns: its registers, its pins, its channel and its events (R36). -/
def motorRegs (m : Motor) (s : State) :=
  (s.speedTgt.get m, s.speedCur.get m, s.currentRaw.get m, s.filt.get m, s.dirA.get m,
    s.dirB.get m, s.en.get m, s.pwmVal.get (motorChannel m), s.pwmUpd.get (motorChannel m),
    s.trace.filter (eventOfMotor m))

/-- Everything servo `v` owns: its hold, its sweep and its channel (R273). -/
def servoRegs (v : Servo) (s : State) :=
  (s.holdCount.get v, s.testActive.get v, s.testIndex.get v, s.pwmVal.get (servoChannel v),
    s.pwmUpd.get (servoChannel v))

/-! ### The motors -/

/-- Driving one motor leaves the other's registers. -/
theorem applySpeed_other {m n : Motor} (h : n ≠ m) (v : Int) (s : State) :
    motorRegs n (applySpeed m v s) = motorRegs n s := by
  have h' : (motorChannel m = motorChannel n) = False := by simp [Ne.symm h]
  have h'' : (m = n) = False := by simp [Ne.symm h]
  rcases applySpeed_cases m v s with ⟨-, d, -, -, e⟩ | ⟨-, d, -, -, e⟩ | ⟨-, e⟩ <;> rw [e] <;>
    simp [motorRegs, h, h', h'', eventOfMotor, List.filter_append]

/-- Writing one motor's speed leaves the other's registers. -/
theorem setSpeedCur_other {m n : Motor} (h : n ≠ m) (v : Speed) (s : State) :
    motorRegs n (setSpeedCur m v s) = motorRegs n s := by
  simp [motorRegs, h]

/-- Sampling one motor's current leaves the other's registers. -/
theorem sampleMotor_other {m n : Motor} (h : n ≠ m) (x : PerMotor Half) (s : State) :
    motorRegs n (sampleMotor x m s) = motorRegs n s := by
  simp [motorRegs, h, sampleMotor]

/-- One motor's convergence step leaves the other's registers. -/
theorem convergeMotor_other {m n : Motor} (h : n ≠ m) (s : State) :
    motorRegs n (convergeMotor m s) = motorRegs n s := by
  rcases convergeMotor_cases m s with ⟨-, e⟩ | ⟨-, e⟩ | ⟨-, e⟩ <;> rw [e]
  · rw [applySpeed_other h, setSpeedCur_other h]
  · rw [applySpeed_other h, setSpeedCur_other h]

/-- One motor's part of a tick leaves the other's registers (R234). -/
theorem rampMotor_other {m n : Motor} (h : n ≠ m) (x : PerMotor Half) (s : State) :
    motorRegs n (rampMotor x m s) = motorRegs n s := by
  rw [rampMotor, convergeMotor_other h, sampleMotor_other h]

/-- What driving a motor leaves in its registers depends on those registers only. -/
theorem applySpeed_congr {m : Motor} {v : Int} {s t : State} (h : motorRegs m s = motorRegs m t) :
    motorRegs m (applySpeed m v s) = motorRegs m (applySpeed m v t) := by
  simp only [motorRegs, Prod.mk.injEq] at h
  unfold applySpeed hbRunCW hbRunCCW hbCoast
  split_ifs <;> simp [motorRegs, h, List.filter_append]

/-- What a motor's part of a tick leaves in its registers depends on those registers, its own
current-sense reading and the configuration only. -/
theorem rampMotor_congr {x y : PerMotor Half} {m : Motor} {s t : State}
    (h : motorRegs m s = motorRegs m t) (hc : s.cfg = t.cfg) (hx : x.get m = y.get m) :
    motorRegs m (rampMotor x m s) = motorRegs m (rampMotor y m t) := by
  have h1 : motorRegs m (sampleMotor x m s) = motorRegs m (sampleMotor y m t) := by
    simp only [motorRegs, Prod.mk.injEq] at h
    simp [motorRegs, sampleMotor, readSense, h, hc, hx]
  unfold rampMotor
  generalize sampleMotor x m s = s at h1
  generalize sampleMotor y m t = t at h1
  have hset : ∀ v, motorRegs m (setSpeedCur m v s) = motorRegs m (setSpeedCur m v t) := by
    simp only [motorRegs, Prod.mk.injEq] at h1
    simp [motorRegs, h1]
  have hcur : curSpeed s m = curSpeed t m := by
    simp only [motorRegs, Prod.mk.injEq] at h1
    simp [curSpeed, h1]
  have htgt : tgtSpeed s m = tgtSpeed t m := by
    simp only [motorRegs, Prod.mk.injEq] at h1
    simp [tgtSpeed, h1]
  rcases convergeMotor_cases m s with ⟨a, e⟩ | ⟨a, e⟩ | ⟨a, e⟩ <;>
    rcases convergeMotor_cases m t with ⟨b, f⟩ | ⟨b, f⟩ | ⟨b, f⟩ <;> rw [e, f] <;>
    first | (exfalso; omega) | skip
  · rw [hcur]; exact applySpeed_congr (hset _)
  · rw [hcur]; exact applySpeed_congr (hset _)
  · exact h1

/-- A tick's effect on a motor's registers is that of the motor's own part. -/
theorem rampTick_regs (x : PerMotor Half) (m : Motor) (s : State) :
    motorRegs m (rampTick x s) = motorRegs m (rampMotor x m s) := by
  cases m
  · exact rampMotor_other (by decide) _ _
  · exact rampMotor_congr (rampMotor_other (by decide) _ _) (by simp) rfl

/-- A servo's strobe step leaves every motor's registers. -/
theorem servoStrobeStep_motorRegs (v : Servo) (m : Motor) (s : State) :
    motorRegs m (servoStrobeStep v s) = motorRegs m s := by
  rcases servoStrobeStep_cases v s with ⟨-, e⟩ | ⟨-, e⟩ | ⟨-, -, e⟩ | ⟨-, -, e⟩ <;> rw [e]
  · rfl
  · cases m <;> cases v <;>
      simp [motorRegs, eventOfMotor, servoChannel, motorChannel, List.filter_append]
  · rcases servoTestAdvance_cases v s with ⟨-, e⟩ | ⟨-, e⟩ <;> rw [e]
    · rfl
    · cases m <;> cases v <;>
        simp [servoApply, motorRegs, eventOfMotor, servoChannel, motorChannel, List.filter_append]

/-! ### The servos -/

/-- Driving a motor leaves every servo's registers. -/
theorem applySpeed_servoRegs (v : Servo) (m : Motor) (k : Int) (s : State) :
    servoRegs v (applySpeed m k s) = servoRegs v s := by
  rcases applySpeed_cases m k s with ⟨-, d, -, -, e⟩ | ⟨-, d, -, -, e⟩ | ⟨-, e⟩ <;> rw [e] <;>
    simp [servoRegs]

/-- A motor's part of a tick leaves every servo's registers. -/
theorem rampMotor_servoRegs (v : Servo) (x : PerMotor Half) (m : Motor) (s : State) :
    servoRegs v (rampMotor x m s) = servoRegs v s := by
  unfold rampMotor
  rcases convergeMotor_cases m (sampleMotor x m s) with ⟨-, e⟩ | ⟨-, e⟩ | ⟨-, e⟩ <;> rw [e] <;>
    (try rw [applySpeed_servoRegs]) <;> rfl

/-- The timebase leaves every servo's registers (R273). -/
theorem timebaseStep_servoRegs (v : Servo) (x : PerMotor Half) (s : State) :
    servoRegs v (timebaseStep x s) = servoRegs v s := by
  rcases timebaseStep_cases x s with ⟨-, e⟩ | ⟨-, -, e⟩ | ⟨-, -, e⟩ <;> rw [e]
  · rfl
  · rw [rampTick, rampMotor_servoRegs, rampMotor_servoRegs]
    rfl
  · rfl

/-- One servo's strobe step leaves the other's registers. -/
theorem servoStrobeStep_other {v w : Servo} (h : w ≠ v) (s : State) :
    servoRegs w (servoStrobeStep v s) = servoRegs w s := by
  have h' : (w = v) = False := by simp [h]
  rcases servoStrobeStep_cases v s with ⟨-, e⟩ | ⟨-, e⟩ | ⟨-, -, e⟩ | ⟨-, -, e⟩ <;> rw [e]
  · simp [servoRegs, h']
  · simp [servoRegs, h']
  · rcases servoTestAdvance_cases v s with ⟨-, e⟩ | ⟨-, e⟩ <;> rw [e] <;>
      simp [servoRegs, servoApply, h']

/-- What a servo's strobe step leaves in its registers depends on those and the configuration
only. -/
theorem servoStrobeStep_congr {v : Servo} {s t : State} (h : servoRegs v s = servoRegs v t)
    (hc : s.cfg = t.cfg) :
    servoRegs v (servoStrobeStep v s) = servoRegs v (servoStrobeStep v t) := by
  simp only [servoRegs, Prod.mk.injEq] at h
  obtain ⟨h1, h2, h3, h4, h5⟩ := h
  have ha : servoRegs v (servoTestAdvance v s) = servoRegs v (servoTestAdvance v t) := by
    unfold servoTestAdvance
    dsimp only
    rw [h3, hc]
    split_ifs <;> simp [servoRegs, servoApply, *]
  unfold servoStrobeStep
  dsimp only
  rw [h1, h2]
  split_ifs
  · simp [servoRegs, *]
  · simp [servoRegs, *]
  · exact ha
  · simp [servoRegs, *]

/-- In a cycle's autonomous operations, a servo's registers see its own strobe step only. -/
theorem strobePhase_servoRegs (v : Servo) (x : PerMotor Half) (s : State) :
    servoRegs v (strobePhase x s) = servoRegs v (servoStrobeStep v s) := by
  cases v
  · rw [strobePhase, servoStrobeStep_other (by decide)]
    exact servoStrobeStep_congr (timebaseStep_servoRegs _ _ _) (by simp)
  · rw [strobePhase]
    refine servoStrobeStep_congr ?_ (by simp)
    rw [servoStrobeStep_other (by decide), timebaseStep_servoRegs]

/-- In a cycle's autonomous operations, a motor's registers see the timebase only. -/
theorem strobePhase_motorRegs (m : Motor) (x : PerMotor Half) (s : State) :
    motorRegs m (strobePhase x s) = motorRegs m (timebaseStep x s) := by
  rw [strobePhase, servoStrobeStep_motorRegs, servoStrobeStep_motorRegs]

/-! ### The commands -/

/-- A command that is none of servo `v`'s own leaves its registers. -/
theorem exec_servoRegs {v : Servo} {i : Instr} (h : drivesServo v i = false) {s t : State}
    (he : exec i s = .next t) : servoRegs v t = servoRegs v s := by
  cases i with
  | servoSet w imm =>
    have hw : (v = w) = False := by simp [drivesServo] at h; simp [Ne.symm h]
    simp only [exec, execServoSet] at he
    split_ifs at he <;> cases he <;> simp [servoRegs, reject, respond, servoApply, hw]
  | servoTest w =>
    have hw : (v = w) = False := by simp [drivesServo] at h; simp [Ne.symm h]
    simp only [exec, execServoTest] at he
    split_ifs at he <;> cases he <;> simp [servoRegs, reject, respond, servoApply, hw]
  | motorForward m imm =>
    cases he
    simp only [respond, speedCommand]
    split_ifs <;> [exact applySpeed_servoRegs _ _ _ _; rfl]
  | motorBackward m imm =>
    cases he
    simp only [respond, speedCommand]
    split_ifs <;> [exact applySpeed_servoRegs _ _ _ _; rfl]
  | motorBrake m => cases he; simp [servoRegs, respond, hbBrakeSupply, stopSpeeds]
  | motorNeutral m => cases he; simp [servoRegs, respond, hbCoast, stopSpeeds]
  | _ => cases he; rfl

/-- A command that is none of motor `m`'s own leaves its registers. -/
theorem exec_motorRegs {m : Motor} {i : Instr} (h : setsTarget m i = false) {s t : State}
    (he : exec i s = .next t) : motorRegs m t = motorRegs m s := by
  cases i with
  | servoSet w imm =>
    simp only [exec, execServoSet] at he
    split_ifs at he <;> cases he <;> [rfl; rfl; skip]
    cases m <;> cases w <;>
      simp [motorRegs, respond, servoApply, eventOfMotor, servoChannel, motorChannel,
        List.filter_append]
  | servoTest w =>
    simp only [exec, execServoTest] at he
    split_ifs at he <;> cases he <;> [rfl; skip]
    cases m <;> cases w <;>
      simp [motorRegs, respond, servoApply, eventOfMotor, servoChannel, motorChannel,
        List.filter_append]
  | motorForward n imm =>
    have hn : m ≠ n := by simp [setsTarget] at h; exact Ne.symm h
    cases he
    simp only [respond, speedCommand]
    split_ifs
    · refine (applySpeed_other hn _ _).trans ?_
      simp [motorRegs, hn]
    · simp [motorRegs, hn]
  | motorBackward n imm =>
    have hn : m ≠ n := by simp [setsTarget] at h; exact Ne.symm h
    cases he
    simp only [respond, speedCommand]
    split_ifs
    · refine (applySpeed_other hn _ _).trans ?_
      simp [motorRegs, hn]
    · simp [motorRegs, hn]
  | motorBrake n =>
    have hn : m ≠ n := by simp [setsTarget] at h; exact Ne.symm h
    cases he
    cases m <;> cases n <;> first | (exact absurd rfl hn) |
      simp [motorRegs, respond, hbBrakeSupply, stopSpeeds, eventOfMotor, motorChannel,
        List.filter_append]
  | motorNeutral n =>
    have hn : m ≠ n := by simp [setsTarget] at h; exact Ne.symm h
    cases he
    cases m <;> cases n <;> first | (exact absurd rfl hn) |
      simp [motorRegs, respond, hbCoast, stopSpeeds, eventOfMotor, motorChannel,
        List.filter_append]
  | _ => cases he; rfl

/-- A command leaves the configuration and the queued inputs. -/
theorem exec_cfg {i : Instr} {s t : State} (he : exec i s = .next t) :
    t.cfg = s.cfg ∧ t.inputs = s.inputs ∧ t.draws = s.draws := by
  cases i with
  | servoSet w imm =>
    simp only [exec, execServoSet] at he
    split_ifs at he <;> cases he <;> simp [reject, respond]
  | servoTest w =>
    simp only [exec, execServoTest] at he
    split_ifs at he <;> cases he <;> simp [reject, respond]
  | motorForward m imm => cases he; simp only [respond, speedCommand]; split_ifs <;> simp
  | motorBackward m imm => cases he; simp only [respond, speedCommand]; split_ifs <;> simp
  | motorBrake m => cases he; simp [respond, hbBrakeSupply, stopSpeeds]
  | motorNeutral m => cases he; simp [respond, hbCoast, stopSpeeds]
  | _ => cases he; simp [respond]

/-- A command other than MOTOR_SET_RAMP_RATE leaves the timebase (R37, R38). -/
theorem exec_timebase {i : Instr} (h : setsRampRate i = false) {s t : State}
    (he : exec i s = .next t) : t.rampRate = s.rampRate ∧ t.msCount = s.msCount := by
  cases i with
  | servoSet w imm =>
    simp only [exec, execServoSet] at he
    split_ifs at he <;> cases he <;> simp [reject, respond]
  | servoTest w =>
    simp only [exec, execServoTest] at he
    split_ifs at he <;> cases he <;> simp [reject, respond]
  | motorForward m imm => cases he; simp only [respond, speedCommand]; split_ifs <;> simp
  | motorBackward m imm => cases he; simp only [respond, speedCommand]; split_ifs <;> simp
  | motorBrake m => cases he; simp [respond, hbBrakeSupply, stopSpeeds]
  | motorNeutral m => cases he; simp [respond, hbCoast, stopSpeeds]
  | motorSetRampRate r => cases h
  | _ => cases he; simp [respond]

/-! ### Cycles and runs -/

/-- The autonomous operations leave the configuration, the queued inputs and the ramp rate. -/
theorem autonomousPhase_cfg (inp : Inputs) (s : State) :
    (autonomousPhase inp (beginCycle s)).cfg = s.cfg ∧
      (autonomousPhase inp (beginCycle s)).inputs = s.inputs ∧
      (autonomousPhase inp (beginCycle s)).draws = s.draws ∧
      (autonomousPhase inp (beginCycle s)).rampRate = s.rampRate := by
  unfold autonomousPhase strobePhase
  split_ifs <;> simp

/-- A cycle leaves the configuration and the inputs still queued. -/
theorem runCycle_cfg {inp : Inputs} {s t : State} (h : runCycle inp s = .next t) :
    t.cfg = s.cfg ∧ t.inputs = s.inputs ∧ t.draws = s.draws := by
  obtain ⟨h1, h2, h3, -⟩ := autonomousPhase_cfg inp s
  rcases runCycle_cases h with ⟨-, -, rfl⟩ | ⟨-, -, -, rfl⟩ | ⟨i, u, -, -, -, -, hu, rfl⟩ |
    ⟨e, -, -, -, -, rfl⟩
  · exact ⟨rfl, rfl, rfl⟩
  · exact ⟨h1, h2, h3⟩
  · obtain ⟨e1, e2, e3⟩ := exec_cfg hu
    exact ⟨e1.trans h1, e2.trans h2, e3.trans h3⟩
  · exact ⟨h1, h2, h3⟩

/-- A run of `n + 1` steps is a step and a run of `n`. -/
theorem run_succ {s u : State} (n : Nat) (h : step s = .next u) :
    Host.Core.run Sys2Proof.core (n + 1) s = Host.Core.run Sys2Proof.core n u := by
  have h' : Sys2Proof.core.step s = .next u := h
  refine (Host.Core.run.eq_2 Sys2Proof.core s n).trans ?_
  rw [h']

/-- The strobes of two schedules one after the other. -/
theorem strobeCount_append (a b : List Inputs) :
    strobeCount (a ++ b) = strobeCount a + strobeCount b := by
  simp [strobeCount]

end Sys2Proof.Machine
end

