-- ==== Sys2Proof/Laws/PerInstr.lean ====
section
/-! SUPPORT. The per-instruction family `EncodeFields`: the fields an instruction is encoded with
meet its sub-format's constraints (R102 to R107) and build that instruction again. -/

namespace Sys2Proof.Laws.EncodeFields

/-- The opcode byte stands for the instruction's opcode, the fields meet every check of its
sub-format, and they build the instruction. -/
def Statement (i : Instr) : Prop :=
  Opcode.ofByte i.opcode.byte = some i.opcode ∧
    CommandFields.WellFormed i.opcode.subFormat ⟨i.opcode.byte, i.idField, i.immField⟩ ∧
    buildInstr i.opcode i.idField i.immField = some i

theorem nop : Statement .nop := by unfold Statement; decide

theorem motorForward (m : Motor) (imm : Half) : Statement (.motorForward m imm) := by
  cases m <;> simp [Statement, Instr.opcode, Instr.idField, Instr.immField, Opcode.subFormat, Opcode.byte,
    Opcode.ofByte, Motor.idField, buildInstr, Motor.ofId,
    CommandFields.WellFormed, CommandFields.IdUnusedIsZero, CommandFields.ImmUnusedIsZero,
    CommandFields.IdExists]

theorem motorBackward (m : Motor) (imm : Half) : Statement (.motorBackward m imm) := by
  cases m <;> simp [Statement, Instr.opcode, Instr.idField, Instr.immField, Opcode.subFormat, Opcode.byte,
    Opcode.ofByte, Motor.idField, buildInstr, Motor.ofId,
    CommandFields.WellFormed, CommandFields.IdUnusedIsZero, CommandFields.ImmUnusedIsZero,
    CommandFields.IdExists]

theorem motorBrake (m : Motor) : Statement (.motorBrake m) := by cases m <;> (unfold Statement; decide)

theorem motorNeutral (m : Motor) : Statement (.motorNeutral m) := by cases m <;> (unfold Statement; decide)

theorem motorSetRampRate (imm : Half) : Statement (.motorSetRampRate imm) := by
  simp [Statement, Instr.opcode, Instr.idField, Instr.immField, Opcode.subFormat, Opcode.byte, Opcode.ofByte,
    buildInstr, CommandFields.WellFormed, CommandFields.IdUnusedIsZero,
    CommandFields.ImmUnusedIsZero, CommandFields.IdExists]

theorem motorGetRampRate : Statement .motorGetRampRate := by unfold Statement; decide

theorem motorGetSpeedTarget (m : Motor) : Statement (.motorGetSpeedTarget m) := by
  cases m <;> (unfold Statement; decide)

theorem motorGetSpeedCurrent (m : Motor) : Statement (.motorGetSpeedCurrent m) := by
  cases m <;> (unfold Statement; decide)

theorem motorGetCurrent (m : Motor) : Statement (.motorGetCurrent m) := by cases m <;> (unfold Statement; decide)

theorem motorGetDriveMode (m : Motor) : Statement (.motorGetDriveMode m) := by
  cases m <;> (unfold Statement; decide)

theorem servoSet (v : Servo) (imm : Half) : Statement (.servoSet v imm) := by
  cases v <;> simp [Statement, Instr.opcode, Instr.idField, Instr.immField, Opcode.subFormat, Opcode.byte,
    Opcode.ofByte, Servo.idField, buildInstr, Servo.ofId,
    CommandFields.WellFormed, CommandFields.IdUnusedIsZero, CommandFields.ImmUnusedIsZero,
    CommandFields.IdExists]

theorem servoTest (v : Servo) : Statement (.servoTest v) := by cases v <;> (unfold Statement; decide)

theorem servoGetStatus (v : Servo) : Statement (.servoGetStatus v) := by cases v <;> (unfold Statement; decide)

end Sys2Proof.Laws.EncodeFields
end

