-- ==== Sys2Proof/Tests/Slice0.lean ====
section
/-! SUPPORT. The model's own tests. Expected values come from spec/: the encodings from
30_encoding.md, the worked cases and vectors from 95_test_vectors.md (W and section numbers in the
comments) and from the examples of the rules. After them, for each obligation with hypotheses, a
concrete state and operands that meet them. -/

namespace Sys2Proof.Tests

open Sys2Proof Sys2Proof.Machine

/-! ### Helpers -/

/-- The state after reset of a unit configured as TC1. -/
def base : State := State.afterReset Config.tc1

/-- The next state, where there is one. -/
def nextOf (o : Host.Outcome State Fault Refusal) : Option State :=
  match o with
  | .next t => some t
  | .fault _ => none
  | .refused _ => none

/-- The next state of one cycle. -/
def cycle (inp : Inputs) (s : State) : Option State := nextOf (runCycle inp s)

/-- One cycle that presents a word. -/
def present (w : Word) (s : State) : Option State := cycle (Inputs.command w) s

/-- One cycle that presents a word and carries a strobe. -/
def presentOnStrobe (w : Word) (s : State) : Option State :=
  cycle { Inputs.command w with msStrobe := true } s

/-- The response and the trace of a cycle. -/
def seen (o : Option State) : Option (Word × List Event) := o.map fun t => (t.respWord, t.trace)

/-! ### WellFormed: one ill-formed term for each check (R8, R102 to R107) -/

theorem test_tc1_is_legal : Config.tc1.WellFormed := by decide

theorem test_adcWidth_refused : ¬ { Config.tc1 with adcWidth := 17 }.WellFormed := by decide

theorem test_senseNum_refused : ¬ { Config.tc1 with senseNum := 0 }.WellFormed := by decide

theorem test_senseDen_refused : ¬ { Config.tc1 with senseDen := 65536 }.WellFormed := by decide

theorem test_alpha_refused : ¬ { Config.tc1 with alphaQ8 := 257 }.WellFormed := by decide

theorem test_calibration_refused :
    ¬ { Config.tc1 with servoCal := ⟨⟨1000, 1500, 2000⟩, ⟨700, 600, 2300⟩⟩ }.WellFormed := by decide

theorem test_settle_refused : ¬ { Config.tc1 with settleMs := 0 }.WellFormed := by decide

theorem test_testStep_refused : ¬ { Config.tc1 with testStepDeg := 4 }.WellFormed := by decide

theorem test_id_must_be_zero : ¬ CommandFields.WellFormed .rate ⟨0x05, 1, 0⟩ := by decide

theorem test_imm_must_be_zero : ¬ CommandFields.WellFormed .motor ⟨0x03, 0, 1⟩ := by decide

theorem test_id_must_exist : ¬ CommandFields.WellFormed .motorSpeed ⟨0x01, 2, 40⟩ := by decide

theorem test_illegal_configuration_refused :
    step { base with cfg := { Config.tc1 with settleMs := 0 } } = .refused .illegalConfiguration :=
  rfl

/-! ### Decoding: for every command a word written out from R100 and R101, op, id and imm in
binary -/

theorem test_decode_nop : decode 0b00000000_00000000_0000000000000000 = .ok .nop := by rfl

theorem test_decode_forward :
    decode 0b00000001_00000000_0000000000101000 = .ok (.motorForward .left 40) := by rfl

theorem test_decode_backward :
    decode 0b00000010_00000001_0000000000110010 = .ok (.motorBackward .right 50) := by rfl

theorem test_decode_brake :
    decode 0b00000011_00000001_0000000000000000 = .ok (.motorBrake .right) := by rfl

theorem test_decode_neutral :
    decode 0b00000100_00000000_0000000000000000 = .ok (.motorNeutral .left) := by rfl

theorem test_decode_setRampRate :
    decode 0b00000101_00000000_1111111111111111 = .ok (.motorSetRampRate 65535) := by rfl

theorem test_decode_getRampRate :
    decode 0b00000110_00000000_0000000000000000 = .ok .motorGetRampRate := by rfl

theorem test_decode_getSpeedTarget :
    decode 0b00001000_00000001_0000000000000000 = .ok (.motorGetSpeedTarget .right) := by rfl

theorem test_decode_getSpeedCurrent :
    decode 0b00001001_00000000_0000000000000000 = .ok (.motorGetSpeedCurrent .left) := by rfl

theorem test_decode_getCurrent :
    decode 0b00001010_00000001_0000000000000000 = .ok (.motorGetCurrent .right) := by rfl

theorem test_decode_getDriveMode :
    decode 0b00001011_00000001_0000000000000000 = .ok (.motorGetDriveMode .right) := by rfl

theorem test_decode_servoSet :
    decode 0b00010000_00000001_1111111111100010 = .ok (.servoSet .s1 (BitVec.ofInt 16 (-30))) := by
  rfl

theorem test_decode_servoTest :
    decode 0b00010001_00000001_0000000000000000 = .ok (.servoTest .s1) := by rfl

theorem test_decode_getStatus :
    decode 0b00010010_00000000_0000000000000000 = .ok (.servoGetStatus .s0) := by rfl

/-- The reserved opcodes of R101 at the edges of their ranges. -/
theorem test_decode_reserved_opcodes :
    decode 0x07000000 = .error .illegalOpcode ∧ decode 0x0C000000 = .error .illegalOpcode ∧
      decode 0x0F000000 = .error .illegalOpcode ∧ decode 0x13000000 = .error .illegalOpcode ∧
      decode 0xFF123456 = .error .illegalOpcode := ⟨rfl, rfl, rfl, rfl, rfl⟩

/-- A link carries 0x01000028 as 28 00 00 01 (R83), and three bytes are no word (R84). -/
theorem test_link_bytes :
    decodeLinkBytes [0x28, 0x00, 0x00, 0x01, 0x77] = .ok (.motorForward .left 40, [0x77]) ∧
      decodeLinkBytes [0x28, 0x00, 0x00] = .error .partialWord := ⟨rfl, rfl⟩

theorem test_decodeTableWord :
    decodeTableWord 32 0x1001005B = some (.servoSet .s1 91) ∧ decodeTableWord 32 0x03020000 = none ∧
      decodeTableWord 8 0x00 = some .nop := ⟨rfl, rfl, rfl⟩

/-- The placed word is the first command performed after reset (W3). -/
theorem test_withFetchWord :
    (nextOf (step (State.reset.withFetchWord 32 0x01000028))).map
        (fun t => (t.respValid, t.respWord, t.speedCur.left, t.trace)) =
      some (true, 0x00010000, 40, [.pin .left true false true, .pwm .c0 40]) := by decide

/-- The assembler's field widths and pseudo-instructions at their bounds (R116). -/
theorem test_assembler_bounds :
    assembleLine "motor.speed RIGHT, -65535" = some 0x0201FFFF ∧
      assembleLine "servo.set 1, 32767" = some 0x10017FFF ∧
      assembleLine "servo.set 1, 32768" = none ∧ assembleLine "motor.brake 255" = some 0x03FF0000 ∧
      assembleLine ".word 0x1234" = none := by decide

/-! ### Words that are turned away (95_test_vectors.md 2.1): the response and nothing else -/

theorem test_reject_words :
    ([0x00010000, 0x00000001, 0x07000000, 0x0C000000, 0xFF123456, 0x03000001, 0x03020000,
        0x04020005, 0x05010000, 0x06000001, 0x01020028, 0x10FF0000, 0x1002005B, 0x11000001,
        0x12020000].map fun w => present w base) =
      ([0x03000000, 0x03000000, 0x02070000, 0x020C0000, 0x02FF0000, 0x03030000, 0x04030000,
        0x03040000, 0x03050000, 0x03060000, 0x04010000, 0x04100000, 0x04100000, 0x03110000,
        0x04120000].map fun r => some { base with respWord := r, respValid := true }) := by decide

/-! ### The commands (95_test_vectors.md 2.1, 2.3, 2.6 and its programs) -/

theorem test_nop : present 0x00000000 base = some { base with respValid := true } := by decide

/-- 2.3: `motor.forward LEFT, 101` clamps to 100. -/
theorem test_forward_clamps :
    (present 0x01000065 base).map (fun t => (t.respWord, t.speedTgt.left, t.speedCur.left,
      driveMode t .left, t.pwmVal.c0)) = some (0x00010000, 100, 100, 1, 100) := by decide

/-- 2.3: `motor.forward LEFT, 80` in ramped mode moves the target only. -/
theorem test_forward_ramped :
    present 0x01000050 { base with rampRate := 5, speedCur := ⟨30, 0⟩ } =
      some { base with
        rampRate := 5, speedCur := ⟨30, 0⟩, speedTgt := ⟨80, 0⟩
        respWord := 0x00010000, respValid := true } := by decide

/-- 2.3: `motor.backward RIGHT, 50` in direct mode. -/
theorem test_backward_direct :
    (present 0x02010032 base).map (fun t => (t.respWord, t.speedTgt.right.toInt,
      t.speedCur.right.toInt, driveMode t .right, t.pwmVal.c1, t.speedCur.left)) =
      some (0x00020000, -50, -50, 2, 50, 0) := by decide

/-- 2.3: `motor.backward RIGHT, 0` coasts and still writes. -/
theorem test_backward_zero :
    seen (present 0x02010000 base) =
      some (0x00020000, [.pin .right false false false, .pwm .c1 0]) := by decide

/-- W5: the trace and the pattern of a brake, from a moving motor. -/
theorem test_brake :
    (present 0x03000000 { base with speedTgt := ⟨30, 7⟩, speedCur := ⟨30, 7⟩ }).map
        (fun t => (t.respWord, t.speedTgt, t.speedCur, driveMode t .left, t.trace)) =
      some (0x00030000, ⟨0, 7⟩, ⟨0, 7⟩, 3, [.pin .left true true true, .pwm .c0 0]) := by
  decide

/-- 2.7: a brake in the cycle of a tick that moves 3 to 4. -/
theorem test_brake_on_tick :
    (presentOnStrobe 0x03000000
        { base with rampRate := 1, speedTgt := ⟨5, 0⟩, speedCur := ⟨3, 0⟩ }).map
        (fun t => (t.trace, t.pwmUpd.c0, t.pwmVal.c0)) =
      some ([.pin .left true false true, .pwm .c0 4, .pin .left true true true, .pwm .c0 0],
        true, 0) := by decide

/-- R195 example: `motor.neutral RIGHT` releases a brake. -/
theorem test_neutral :
    (present 0x04010000
        { base with dirA := ⟨false, true⟩, dirB := ⟨false, true⟩, en := ⟨false, true⟩ }).map
        (fun t => (t.respWord, driveMode t .right, t.en.right, t.trace)) =
      some (0x00040000, 0, false, [.pin .right false false false, .pwm .c1 0]) := by decide

/-- 2.3: the rate of 0 leaves the motor where it is, and restarts the phase. -/
theorem test_setRampRate :
    present 0x05000000
        { base with rampRate := 5, msCount := 3, speedTgt := ⟨40, 0⟩, speedCur := ⟨12, 0⟩ } =
      some { base with
        rampRate := 0, msCount := 0, speedTgt := ⟨40, 0⟩, speedCur := ⟨12, 0⟩
        respWord := 0x00050000, respValid := true } := by decide

/-- 2.1: MOTOR_GET_RAMP_RATE after a rate of 65535. -/
theorem test_getRampRate :
    seen (present 0x06000000 { base with rampRate := 65535 }) = some (0x0006FFFF, []) := by decide

/-- 2.3: -50 reads as 0xFFCE. -/
theorem test_getSpeedTarget :
    seen (present 0x08010000 { base with speedTgt := ⟨1, BitVec.ofInt 8 (-50)⟩ }) =
      some (0x0008FFCE, []) := by decide

/-- 2.4: in the cycle of a tick (2 to 3) the command reads 3. -/
theorem test_getSpeedCurrent_on_tick :
    (presentOnStrobe 0x09000000
        { base with rampRate := 1, speedTgt := ⟨5, 0⟩, speedCur := ⟨2, 0⟩ }).map
        (fun t => t.respWord) = some 0x00090003 := by decide

/-- 2.3: the filter state rounded half up. -/
theorem test_getCurrent_rounds :
    ([0x00A000, 0x000080, 0x00007F, 0xFFFF00].map fun f =>
        (present 0x0A000000 { base with filt := ⟨f, 0⟩ }).map fun t => t.respWord) =
      [some 0x000A00A0, some 0x000A0001, some 0x000A0000, some 0x000AFFFF] := by decide

/-- P3 line 10: BRAKE reads 3. -/
theorem test_getDriveMode :
    ([(false, false), (true, false), (false, true), (true, true)].map fun p =>
        (present 0x0B000000 { base with dirA := ⟨p.1, false⟩, dirB := ⟨p.2, false⟩ }).map
          fun t => t.respWord) =
      [some 0x000B0000, some 0x000B0001, some 0x000B0002, some 0x000B0003] := by decide

/-- 2.6: `servo.set S1, -30` (inverted). -/
theorem test_servoSet :
    (present 0x1001FFE2 base).map (fun t => (t.respWord, t.trace, t.holdCount, t.pwmUpd.c3)) =
      some (0x00100000, [.pwm .c3 1733], ⟨0, 3⟩, true) := by decide

/-- 2.6: OUT_OF_RANGE before BUSY, and BUSY for the servo whose sweep runs only. -/
theorem test_servoSet_turned_away :
    ([0x1000005B, 0x1000FFA5, 0x10000000].map fun w =>
        present w { base with testActive := ⟨true, false⟩ }) =
      [some { base with
        testActive := ⟨true, false⟩, respWord := 0x01100000, respValid := true },
      some { base with
        testActive := ⟨true, false⟩, respWord := 0x01100000, respValid := true },
      some { base with
        testActive := ⟨true, false⟩, respWord := 0x05100000, respValid := true }] := by
  decide

/-- R265 example: `servo.test S1`, during a hold. -/
theorem test_servoTest :
    (present 0x11010000 { base with holdCount := ⟨2, 1⟩ }).map
        (fun t => (t.respWord, t.trace, t.holdCount, t.testActive, t.testIndex)) =
      some (0x00110000, [.pwm .c3 2300], ⟨2, 3⟩, ⟨false, true⟩, ⟨0, 0⟩) := by decide

/-- 2.6: `servo.test S0` while its sweep runs. -/
theorem test_servoTest_busy :
    (present 0x11000000 { base with testActive := ⟨true, false⟩, testIndex := ⟨4, 0⟩ }).map
        (fun t => (t.respWord, t.trace, t.testIndex.s0)) = some (0x05110000, [], 4) := by decide

/-- 2.6: hold is bit 0 and sweep is bit 1. -/
theorem test_getStatus :
    ([(0, false), (1, false), (0, true), (3, true)].map fun p =>
        (present 0x12000000 { base with holdCount := ⟨p.1, 0⟩, testActive := ⟨p.2, false⟩ }).map
          fun t => t.respWord) =
      [some 0x00120000, some 0x00120001, some 0x00120002, some 0x00120003] := by decide

/-! ### The primitives and the autonomous operations (95_test_vectors.md 2.2, 2.4 to 2.7) -/

/-- 2.2: `HbRunCW(0, 250)` clamps; `HbCoast(1)` from BRAKE. -/
theorem test_hbridge :
    (hbRunCW .left 250 base).trace = [.pin .left true false true, .pwm .c0 100] ∧
      (hbCoast .right (hbBrakeSupply .right base)).trace =
        [.pin .right true true true, .pwm .c1 0, .pin .right false false false, .pwm .c1 0] := by
  decide

/-- 2.2: `ConvertSense`. -/
theorem test_convertSense :
    convertSense { Config.tc1 with senseNum := 3, senseDen := 2 } 101 = 151 ∧
      convertSense { Config.tc1 with senseNum := 3, senseDen := 2 } 4095 = 6142 ∧
      convertSense { Config.tc1 with senseNum := 65535 } 2 = 65535 ∧
      convertSense Config.tc1 0 = 0 := by decide

/-- 2.5: single steps of the filter. -/
theorem test_filterStep :
    filterStep Config.tc1 0 100 = 10200 ∧ filterStep Config.tc1 10200 100 = 16336 ∧
      filterStep Config.tc1 25599 100 = 25599 ∧ filterStep Config.tc1 25600 0 = 15400 ∧
      filterStep { Config.tc1 with alphaQ8 := 256 } 12345 77 = 19712 ∧
      filterStep { Config.tc1 with alphaQ8 := 1 } 25600 0 = 25500 ∧
      filterStep { Config.tc1 with alphaQ8 := 1 } 0xFFFF00 0 = 16711425 ∧
      filterStep Config.tc1 0xFFFF00 0 = 10092390 := by decide

/-- 2.4: one tick with motor 0 under way and motor 1 converged. -/
theorem test_tick :
    (cycle (Inputs.strobe ⟨100, 0⟩) { base with rampRate := 1, speedTgt := ⟨2, 0⟩ }).map
        (fun t => (t.trace, t.speedCur, t.currentRaw, t.filt, t.msCount)) =
      some ([.pin .left true false true, .pwm .c0 1], ⟨1, 0⟩, ⟨100, 0⟩, ⟨10200, 0⟩, 0) := by decide

/-- 2.4: both motors under way, in motor order. -/
theorem test_tick_order :
    (cycle (Inputs.strobe ⟨0, 0⟩)
        { base with rampRate := 1, speedTgt := ⟨100, BitVec.ofInt 8 (-100)⟩ }).map
        (fun t => t.trace) =
      some [.pin .left true false true, .pwm .c0 1, .pin .right false true true, .pwm .c1 1] := by
  decide

/-- W4, tick 30 of the reversal: the tick that reaches 0 coasts. -/
theorem test_tick_through_zero :
    (cycle (Inputs.strobe ⟨0, 0⟩) { base with
        rampRate := 1, speedTgt := ⟨BitVec.ofInt 8 (-50), 0⟩, speedCur := ⟨1, 0⟩ }).map
        (fun t => (t.trace, t.speedCur.left)) =
      some ([.pin .left false false false, .pwm .c0 0], 0) := by decide

/-- 2.4: rate 65535, strobes 65534 and 65535. -/
theorem test_timebase_longest_rate :
    (cycle (Inputs.strobe ⟨7, 0⟩) { base with rampRate := 65535, msCount := 65533 }).map
        (fun t => (t.msCount, t.currentRaw.left)) = some (65534, 0) ∧
      (cycle (Inputs.strobe ⟨7, 0⟩) { base with rampRate := 65535, msCount := 65534 }).map
        (fun t => (t.msCount, t.currentRaw.left)) = some (0, 7) := by decide

/-- 2.6: `ServoDuty`, both servos. -/
theorem test_servoDuty :
    ([-90, -45, -30, -1, 0, 1, 30, 45, 89, 90].map (servoDuty Config.tc1 .s0)) =
        [1000, 1250, 1334, 1495, 1500, 1505, 1666, 1750, 1994, 2000] ∧
      ([-90, -45, -30, -1, 0, 1, 30, 45, 89, 90].map (servoDuty Config.tc1 .s1)) =
        [2300, 1875, 1733, 1459, 1450, 1442, 1200, 1075, 709, 700] := by decide

/-- 2.6: the sweep's points under TC1. -/
theorem test_sweep_points :
    ([0, 1, 2, 3, 4, 5, 6, 7, 8].map (testAngle Config.tc1)) =
      [-90, -45, 0, 45, 90, 45, 0, -45, -90] := by decide

/-- 2.6, strobes 4 and 36 of a sweep; 2.6 hold timing, the third strobe. -/
theorem test_servo_strobe :
    (cycle (Inputs.strobe ⟨0, 0⟩) { base with testActive := ⟨true, false⟩ }).map
        (fun t => (t.trace, t.testIndex.s0, t.holdCount.s0)) = some ([.pwm .c2 1250], 1, 3) ∧
      (cycle (Inputs.strobe ⟨0, 0⟩)
        { base with testActive := ⟨true, false⟩, testIndex := ⟨8, 0⟩ }).map
        (fun t => (t.trace, t.testIndex.s0, t.testActive.s0)) = some ([], 0, false) ∧
      (cycle (Inputs.strobe ⟨0, 0⟩) { base with holdCount := ⟨1, 1⟩ }).map
        (fun t => (t.trace, t.holdCount)) = some ([.pwm .c2 0, .pwm .c3 0], ⟨0, 0⟩) := by decide

/-- 2.7: reset with everything else presented. -/
theorem test_reset :
    cycle ⟨true, true, 0x01000028, true, ⟨9, 9⟩⟩
        { base with speedCur := ⟨5, 5⟩, testActive := ⟨true, true⟩, respValid := true } =
      some base := by decide

/-- 2.7: a cycle with no command keeps the response word; `cmd_ready` is 1 (R56). -/
theorem test_idle_keeps_response :
    (cycle Inputs.idle { base with respWord := 0x00090028, respValid := true }).map
        (fun t => (t.respValid, t.respWord, (outputs t).cmdReady)) =
      some (false, 0x00090028, true) := by decide

/-! ### Witnesses: for each obligation with hypotheses, operands and states that meet them, at
the bounds where a clause has one -/

/-- A state with motor 0 at full speed forward and motor 1 at full speed backward. -/
def moving : State :=
  { base with
    speedTgt := ⟨100, BitVec.ofInt 8 (-100)⟩
    speedCur := ⟨100, BitVec.ofInt 8 (-100)⟩
    dirA := ⟨true, false⟩
    dirB := ⟨false, true⟩
    en := ⟨true, true⟩
    pwmVal := ⟨100, 100, 0, 0⟩ }

/-- A cycle with a strobe only. -/
def strobe : Inputs := Inputs.strobe ⟨100, 50⟩

/-- A cycle that presents a word and carries a strobe. -/
def commandOnStrobe (w : Word) : Inputs := { Inputs.command w with msStrobe := true }

/-- `s` with the inputs of the coming cycles given. -/
def given (s : State) (l : List Inputs) : State := { s with inputs := l }

theorem witness_EncodeDecodeAgree : decode 0x10010000 = .ok (.servoSet .s1 0) := rfl

/-- Each outcome of a dispatch check, with the opcodes at the edges of the reserved ranges. -/
theorem witness_DispatchChecksInOrder :
    Opcode.ofByte (fieldsOf 0x03010000).op = some .motorBrake ∧
      (fieldsOf 0x03010000).WellFormed Opcode.motorBrake.subFormat ∧
      Opcode.ofByte (fieldsOf 0x04020005).op = some .motorNeutral ∧
      ¬ ((fieldsOf 0x04020005).IdUnusedIsZero Opcode.motorNeutral.subFormat ∧
        (fieldsOf 0x04020005).ImmUnusedIsZero Opcode.motorNeutral.subFormat) ∧
      Opcode.ofByte (fieldsOf 0x1002005B).op = some .servoSet ∧
      ¬ (fieldsOf 0x1002005B).IdExists Opcode.servoSet.subFormat ∧
      ([0x06, 0x08, 0x0B, 0x10, 0x12].all fun b => (Opcode.ofByte b).isSome) = true ∧
      ([0x07, 0x0C, 0x0F, 0x13, 0xFF].all fun b => (Opcode.ofByte b).isNone) = true := by decide

theorem witness_NopOnlyResponds :
    ((1 : Byte) ≠ 0 ∨ (0 : Half) ≠ 0) ∧ ((0 : Byte) ≠ 0 ∨ (1 : Half) ≠ 0) ∧
      (commandOnStrobe 0).rst = false ∧ (commandOnStrobe 0).cmdValid = true ∧
      (commandOnStrobe 0).cmdWord = 0x00000000 := by decide

theorem witness_MotorGetSpeedTargetResult :
    tgtSpeed { base with speedTgt := ⟨BitVec.ofInt 8 (-50), 0⟩ } .left = -50 ∧
      tgtSpeed moving .right = -100 := by decide

theorem witness_MotorGetSpeedCurrentResult :
    performed (commandOnStrobe 0x09010000) = some (.motorGetSpeedCurrent .right) ∧
      (commandOnStrobe 0x09010000).msStrobe = true := by decide

theorem witness_MotorGetCurrentResult :
    (({ base with filt := ⟨0xFFFF00, 0⟩ } : State).filt.get .left).toNat ≤ 0xFFFF00 := by decide

theorem witness_ReadBackChangesNothing :
    isReadBack (.servoGetStatus .s1) = true ∧ isReadBack .motorGetRampRate = true := by decide

/-- A braked motor in ramped mode, in a cycle with a tick and a command for the other motor. -/
theorem witness_MotorBrakeResult :
    let s := given
      { moving with
        rampRate := 1, speedTgt := ⟨0, 5⟩, speedCur := ⟨0, 4⟩, dirA := ⟨true, true⟩
        dirB := ⟨true, false⟩, pwmVal := ⟨0, 4, 0, 0⟩ }
      [commandOnStrobe 0x04010000]
    Brakes s .left ∧ curSpeed s .left = 0 ∧ tgtSpeed s .left = 0 ∧ (∃ t, step s = .next t) ∧
      (sampledInputs s).rst = false ∧
      ∀ i, performed (sampledInputs s) = some i → setsTarget .left i = false :=
  ⟨⟨rfl, rfl, rfl, rfl⟩, rfl, rfl, ⟨_, rfl⟩, rfl, fun i h => by cases h; rfl⟩

theorem witness_ApplySpeedResult :
    ((-100 : Int) ≤ -100 ∧ (-100 : Int) ≤ 100) ∧ ((-100 : Int) ≤ 0 ∧ (0 : Int) ≤ 100) ∧
      ((-100 : Int) ≤ 100 ∧ (100 : Int) ≤ 100) := by decide

theorem witness_ConvertSenseSaturates :
    Config.tc1.WellFormed ∧ Config.tc1.senseNum = 1 ∧ Config.tc1.senseDen = 1 ∧ 65535 ≤ 65535 := by
  decide

theorem witness_FilterStaysBetween :
    Config.tc1.AlphaLegal ∧ (0xFFFF00 : FiltWord).toNat ≤ 0xFFFF00 ∧
      { Config.tc1 with alphaQ8 := 1 }.AlphaLegal ∧ { Config.tc1 with alphaQ8 := 256 }.AlphaLegal := by
  decide

theorem witness_FilterConvergesToInput :
    Config.tc1.AlphaLegal ∧ (0 : FiltWord).toNat ≤ 0xFFFF00 := by decide

/-- Direct mode; a tick at the largest rate; the strobe just before it. -/
theorem witness_TimebaseStepResult :
    base.rampRate = 0 ∧
      (({ base with rampRate := 65535, msCount := 65534 } : State).rampRate ≠ 0 ∧
        ({ base with rampRate := 65535, msCount := 65534 } : State).rampRate.toNat ≤
          ({ base with rampRate := 65535, msCount := 65534 } : State).msCount.toNat + 1) ∧
      ({ base with rampRate := 65535, msCount := 65533 } : State).msCount.toNat + 1 <
        ({ base with rampRate := 65535, msCount := 65533 } : State).rampRate.toNat := by decide

theorem moving_speeds : SpeedsInRange moving := by intro m; cases m <;> decide

/-- Speeds in range, one motor converged and one under way in each direction. -/
theorem witness_RampTickResult :
    SpeedsInRange moving ∧ SpeedsInRange { moving with speedTgt := ⟨100, 100⟩ } ∧
      curSpeed moving .left = tgtSpeed moving .left ∧
      curSpeed { moving with speedTgt := ⟨100, 100⟩ } .right ≠
        tgtSpeed { moving with speedTgt := ⟨100, 100⟩ } .right :=
  ⟨moving_speeds, by intro m; cases m <;> decide, by decide, by decide⟩

theorem witness_TickMovesByOneTowardTarget :
    SpeedsInRange { moving with speedTgt := ⟨BitVec.ofInt 8 (-100), 100⟩ } ∧
      tgtSpeed { moving with speedTgt := ⟨BitVec.ofInt 8 (-100), 100⟩ } .left <
        curSpeed { moving with speedTgt := ⟨BitVec.ofInt 8 (-100), 100⟩ } .left ∧
      curSpeed { moving with speedTgt := ⟨BitVec.ofInt 8 (-100), 100⟩ } .right <
        tgtSpeed { moving with speedTgt := ⟨BitVec.ofInt 8 (-100), 100⟩ } .right ∧
      curSpeed moving .left = tgtSpeed moving .left :=
  ⟨by intro m; cases m <;> decide, by decide, by decide, by decide⟩

/-- Both directions of a reversal, two ticks away from zero. -/
theorem witness_ReversalPassesThroughCoast :
    let s := { base with
      speedCur := ⟨2, BitVec.ofInt 8 (-2)⟩, speedTgt := ⟨BitVec.ofInt 8 (-1), 1⟩ }
    [strobe.isense, strobe.isense].length = (curSpeed s .left).natAbs ∧
      0 < curSpeed s .left ∧ tgtSpeed s .left < 0 ∧
      [strobe.isense, strobe.isense].length = (curSpeed s .right).natAbs ∧
      curSpeed s .right < 0 ∧ 0 < tgtSpeed s .right := by decide

/-- A cycle with a strobe only performs no command. -/
theorem strobe_quiet (f : Instr → Bool) :
    strobe.rst = false ∧ ∀ i, performed strobe = some i → f i = false :=
  ⟨rfl, fun _ h => by cases h⟩

/-- A schedule after which the next strobe ticks (the third), and one after which it does not. -/
theorem witness_TicksEveryRateStrobes :
    (given base [Inputs.command 0x05000003, strobe, strobe]).cfg.WellFormed ∧ (3 : Half) ≠ 0 ∧
      performed (Inputs.command 0x05000003) = some (.motorSetRampRate 3) ∧
      (∀ inp ∈ [strobe, strobe], inp.rst = false ∧
        ∀ i, performed inp = some i → setsRampRate i = false) ∧
      (given base [Inputs.command 0x05000003, strobe, strobe]).inputs =
        Inputs.command 0x05000003 :: [strobe, strobe] ++ [] ∧
      3 ∣ strobeCount [strobe, strobe] + 1 ∧
      (∀ inp ∈ [strobe], inp.rst = false ∧
        ∀ i, performed inp = some i → setsRampRate i = false) ∧
      (given base [Inputs.command 0x05000003, strobe]).inputs =
        Inputs.command 0x05000003 :: [strobe] ++ [] ∧
      ¬ 3 ∣ strobeCount [strobe] + 1 := by
  refine ⟨by decide, by decide, by decide, ?_, rfl, by decide, ?_, rfl, by decide⟩
  · intro inp h
    rcases List.mem_pair.1 h with rfl | rfl <;> exact strobe_quiet _
  · intro inp h
    rcases List.mem_singleton.1 h with rfl
    exact strobe_quiet _

/-- A brake from 100, and a direct-mode command from 100. -/
theorem witness_OnlyCommandsJumpSpeed :
    (∃ t, step (given moving [Inputs.command 0x03000000]) = .next t ∧
      1 < (curSpeed t .left - curSpeed (given moving [Inputs.command 0x03000000]) .left).natAbs) ∧
    ∃ t, step (given moving [Inputs.command 0x02000028]) = .next t ∧
      1 < (curSpeed t .left - curSpeed (given moving [Inputs.command 0x02000028]) .left).natAbs :=
  ⟨⟨_, rfl, by decide⟩, ⟨_, rfl, by decide⟩⟩

theorem witness_DirectModeFreezesTelemetry :
    ∃ t, step (given moving [strobe]) = .next t ∧ (given moving [strobe]).rampRate = 0 ∧
      (sampledInputs (given moving [strobe])).rst = false ∧
      (sampledInputs (given moving [strobe])).msStrobe = true :=
  ⟨_, rfl, rfl, rfl, rfl⟩

/-- Angles at both bounds and 0, with servo 0 not inverted and servo 1 inverted. -/
theorem witness_ServoDutyInterpolates :
    (∀ v, (Config.tc1.servoCal.get v).Monotone) ∧ ((-90 : Int) ≤ -90 ∧ (-90 : Int) ≤ 90) ∧
      ((-90 : Int) ≤ 0 ∧ (0 : Int) ≤ 90) ∧ ((-90 : Int) ≤ 90 ∧ (90 : Int) ≤ 90) ∧
      Config.tc1.servoInvert.get .s0 = false ∧ Config.tc1.servoInvert.get .s1 = true :=
  ⟨fun v => by cases v <;> decide, by decide⟩

theorem witness_ServoDutyEndPoints :
    (∀ v, (Config.tc1.servoCal.get v).Monotone) ∧ Config.tc1.servoInvert.get .s0 = false ∧
      Config.tc1.servoInvert.get .s1 = true := ⟨fun v => by cases v <;> decide, rfl, rfl⟩

theorem witness_SweepPoints :
    Config.tc1.WellFormed ∧ Config.tc1.sweepN ≤ Config.tc1.sweepN ∧
      Config.tc1.sweepN < 2 * Config.tc1.sweepN ∧ 2 * Config.tc1.sweepN ≤ 2 * Config.tc1.sweepN := by
  decide

/-- A hold above 1, at 1, no hold and no sweep, the sweep's last point, the point before it. -/
theorem witness_ServoStrobeStepResult :
    1 < (({ base with holdCount := ⟨2, 0⟩ } : State).holdCount.get .s0).toNat ∧
      ({ base with holdCount := ⟨1, 0⟩ } : State).holdCount.get .s0 = 1 ∧
      (base.holdCount.get .s0 = 0 ∧ base.testActive.get .s0 = false) ∧
      (let s := { base with testActive := ⟨true, true⟩, testIndex := ⟨8, 7⟩ }
      s.holdCount.get .s0 = 0 ∧ s.testActive.get .s0 = true ∧
        (s.testIndex.get .s0).toNat = 2 * s.cfg.sweepN ∧ s.holdCount.get .s1 = 0 ∧
        s.testActive.get .s1 = true ∧ (s.testIndex.get .s1).toNat < 2 * s.cfg.sweepN) := by decide

/-- Angles at both bounds; a schedule with a strobe and another command. -/
theorem witness_HoldLastsSettleStrobes :
    let s := given base [Inputs.command 0x1000FFA6, strobe, Inputs.command 0x01000028]
    s.cfg.WellFormed ∧ s.testActive.get .s0 = false ∧
      performed (Inputs.command 0x1000FFA6) = some (.servoSet .s0 0xFFA6) ∧
      -90 ≤ (0xFFA6 : Half).toInt ∧ (0xFFA6 : Half).toInt ≤ 90 ∧ (0x005A : Half).toInt = 90 ∧
      (∀ inp ∈ [strobe, Inputs.command 0x01000028], inp.rst = false ∧
        ∀ i, performed inp = some i → drivesServo .s0 i = false) ∧
      s.inputs =
        Inputs.command 0x1000FFA6 :: [strobe, Inputs.command 0x01000028] ++ [] := by
  refine ⟨by decide, by decide, by decide, by decide, by decide, by decide, ?_, rfl⟩
  intro inp h
  rcases List.mem_pair.1 h with rfl | rfl
  · exact strobe_quiet _
  · exact ⟨rfl, fun i h => by cases h; rfl⟩

/-- The last strobe before a sweep's end under TC1: the 35th of 36. -/
theorem witness_SweepTimeline :
    let sched := List.replicate 35 strobe
    let s := given base (Inputs.command 0x11000000 :: sched)
    s.cfg.WellFormed ∧ s.testActive.get .s0 = false ∧
      performed (Inputs.command 0x11000000) = some (.servoTest .s0) ∧
      (∀ inp ∈ sched, inp.rst = false) ∧
      s.inputs = Inputs.command 0x11000000 :: sched ++ [] ∧
      strobeCount sched < (2 * s.cfg.sweepN + 1) * (s.cfg.settleMs + 1) ∧
      strobeCount sched + 1 = (2 * s.cfg.sweepN + 1) * (s.cfg.settleMs + 1) ∧
      strobe.rst = false ∧ strobe.msStrobe = true ∧ strobe.cmdValid = false := by decide

theorem witness_StepRunsDecodedCommand :
    let s := given base [commandOnStrobe 0x01000028]
    s.cfg.WellFormed ∧ (sampledInputs s).rst = false ∧ (sampledInputs s).cmdValid = true ∧
      decode (sampledInputs s).cmdWord = .ok (.motorForward .left 40) ∧
      ∃ t, exec (.motorForward .left 40)
        (autonomousPhase (sampledInputs s) (beginCycle (afterSampling s))) = .next t :=
  ⟨by decide, rfl, rfl, rfl, ⟨_, rfl⟩⟩

theorem witness_CycleOrder :
    (strobe.rst = false ∧ strobe.msStrobe = true ∧ strobe.cmdValid = false) ∧
      ((commandOnStrobe 0x03000000).rst = false ∧ (commandOnStrobe 0x03000000).msStrobe = true ∧
        performed (commandOnStrobe 0x03000000) = some (.motorBrake .left) ∧
        ∃ t, exec (.motorBrake .left) (servoStrobeStep .s1 (servoStrobeStep .s0 (timebaseStep
          (commandOnStrobe 0x03000000).isense
          { moving with pwmUpd := ⟨false, false, false, false⟩, trace := [] }))) = .next t) ∧
      (Inputs.idle.rst = false ∧ Inputs.idle.msStrobe = false ∧ Inputs.idle.cmdValid = false) :=
  ⟨by decide, ⟨rfl, rfl, rfl, ⟨_, rfl⟩⟩, by decide⟩

theorem witness_EveryCycleCompletes :
    base.cfg.WellFormed ∧
      ¬ ({ base with cfg := { Config.tc1 with testStepDeg := 0 } } : State).cfg.WellFormed := by
  decide

/-- One word for each cause. -/
theorem witness_RejectedWordOnlyResponds :
    (Inputs.command 0xFF123456).rst = false ∧ (Inputs.command 0xFF123456).cmdValid = true ∧
      decode (Inputs.command 0xFF123456).cmdWord = .error .illegalOpcode ∧
      decode (Inputs.command 0x04020005).cmdWord = .error .reservedField ∧
      decode (Inputs.command 0x10FF0000).cmdWord = .error .badId := ⟨rfl, rfl, rfl, rfl, rfl⟩

theorem witness_ResponseValidFollowsCommand :
    ∃ t, step (given base [strobe]) = .next t ∧
      (sampledInputs (given base [strobe])).cmdValid = false ∧
      (sampledInputs (given base [strobe])).rst = false := ⟨_, rfl, rfl, rfl⟩

/-- A read-back with data, and each cause of an error. -/
theorem witness_ResponseFormat :
    (∃ t, step (given moving [Inputs.command 0x08000000]) = .next t ∧
      (sampledInputs (given moving [Inputs.command 0x08000000])).cmdValid = true ∧
      (sampledInputs (given moving [Inputs.command 0x08000000])).rst = false ∧
      responseData t.respWord ≠ 0) ∧
    (∃ t, step (given base [Inputs.command 0x1000005B]) = .next t ∧
      responseStatus t.respWord = 0x01) ∧
    (∃ t, step (given { base with testActive := ⟨true, false⟩ } [Inputs.command 0x11000000]) =
      .next t ∧ responseStatus t.respWord = 0x05) ∧
    ∃ t, step (given base [Inputs.command 0x07000000]) = .next t ∧
      responseStatus t.respWord = 0x02 ∧ performed (Inputs.command 0x07000000) = none :=
  ⟨⟨_, rfl, rfl, rfl, by decide⟩, ⟨_, rfl, by decide⟩, ⟨_, rfl, by decide⟩,
    ⟨_, rfl, by decide, by decide⟩⟩

/-- One channel written and one not, and a reset. -/
theorem witness_UpdateStrobeMarksWrites :
    (∃ t, step (given moving [{ strobe with rst := true }]) = .next t ∧
      (sampledInputs (given moving [{ strobe with rst := true }])).rst = true) ∧
    ∃ t, step (given moving [Inputs.command 0x03000000]) = .next t ∧
      (sampledInputs (given moving [Inputs.command 0x03000000])).rst = false ∧
      t.pwmUpd.get .c0 = true ∧ t.pwmUpd.get .c1 = false :=
  ⟨⟨_, rfl, rfl⟩, ⟨_, rfl, rfl, rfl, rfl⟩⟩

/-- Motor commands in a cycle that ticks or, for the speed commands, a direct-mode strobe, with
operand 0 and above the limit; servo commands in the cycle of a release and of a sweep's end. -/
theorem witness_CommandAfterTickWins :
    (∀ w ∈ [0x03000000, 0x04000000],
      ∃ t i, step (given { moving with rampRate := 1, speedTgt := ⟨0, 0⟩ } [commandOnStrobe w]) =
        .next t ∧ performed (commandOnStrobe w) = some i ∧
        (i = .motorBrake .left ∨ i = .motorNeutral .left) ∧
        (commandOnStrobe w).msStrobe = true) ∧
    (∀ w ∈ [0x01010000, 0x0101FFFF, 0x02010000, 0x0201FFFF],
      ∃ t i, step (given moving [commandOnStrobe w]) = .next t ∧ moving.rampRate = 0 ∧
        performed (commandOnStrobe w) = some i ∧
        (i = .motorForward .right 0 ∨ i = .motorForward .right 65535 ∨
          i = .motorBackward .right 0 ∨ i = .motorBackward .right 65535)) ∧
    (let s := given { base with holdCount := ⟨1, 0⟩ } [commandOnStrobe 0x1000005A]
    (∃ t, step s = .next t) ∧ performed (sampledInputs s) = some (.servoSet .s0 90) ∧
      SweepOver s .s0 ∧ -90 ≤ (90 : Half).toInt ∧ (90 : Half).toInt ≤ 90) ∧
    (let s := given { base with testActive := ⟨true, false⟩, testIndex := ⟨8, 0⟩ }
      [commandOnStrobe 0x11000000]
    (∃ t, step s = .next t) ∧ performed (sampledInputs s) = some (.servoTest .s0) ∧
      SweepOver s .s0) := by
  refine ⟨?_, ?_, ⟨⟨_, rfl⟩, rfl, by decide, by decide, by decide⟩, ⟨⟨_, rfl⟩, rfl, by decide⟩⟩
  · intro w h
    simp only [List.mem_cons, List.not_mem_nil, or_false] at h
    rcases h with rfl | rfl <;> exact ⟨_, _, rfl, rfl, by decide, rfl⟩
  · intro w h
    simp only [List.mem_cons, List.not_mem_nil, or_false] at h
    rcases h with rfl | rfl | rfl | rfl <;> exact ⟨_, _, rfl, rfl, rfl, by decide⟩

theorem witness_ResetCycle :
    let first : Inputs := ⟨true, true, 0x01000028, true, ⟨9, 9⟩⟩
    let s := given moving [first, first, strobe]
    s.cfg.WellFormed ∧ (sampledInputs s).rst = true ∧ s.inputs = first :: first :: [strobe] ∧
      first.rst = true := ⟨by decide, rfl, rfl, rfl⟩

theorem witness_SpeedsStayInRange :
    SpeedsInRange (given moving [commandOnStrobe 0x0200FFFF]) ∧
      ∃ t, step (given moving [commandOnStrobe 0x0200FFFF]) = .next t :=
  ⟨by intro m; cases m <;> decide, ⟨_, rfl⟩⟩

/-- Phase at its largest, one strobe before a tick; and direct mode. -/
theorem witness_PhaseStaysBelowRate :
    PhaseInRange (given { moving with rampRate := 65535, msCount := 65534 } [strobe]) ∧
      PhaseInRange (given moving [strobe]) ∧
      ∃ t, step (given { moving with rampRate := 65535, msCount := 65534 } [strobe]) = .next t :=
  ⟨by decide, by decide, ⟨_, rfl⟩⟩

theorem moving_pattern (l : List Inputs) : DrivePatternLegal (given moving l)
  | .left => .inr (.inl ⟨100, by decide, by decide, rfl, rfl, rfl, rfl⟩)
  | .right => .inr (.inr (.inl ⟨100, by decide, by decide, rfl, rfl, rfl, rfl⟩))

theorem witness_DrivePatternStaysLegal :
    DrivePatternLegal (given moving [Inputs.command 0x03000000]) ∧
      (∃ t, step (given moving [Inputs.command 0x03000000]) = .next t) ∧
      (DrivePatternLegal base ∧ driveMode base .left ≠ 1 ∧ driveMode base .left ≠ 2) :=
  ⟨moving_pattern _, ⟨_, rfl⟩, fun m => by cases m <;> exact .inl ⟨rfl, rfl, rfl, rfl⟩, by decide,
    by decide⟩

/-- A sweep at its last point. -/
theorem witness_SweepIndexStaysInRange :
    SweepInRange (given { base with testActive := ⟨true, false⟩, testIndex := ⟨8, 0⟩ } [strobe]) ∧
      ∃ t, step (given { base with testActive := ⟨true, false⟩, testIndex := ⟨8, 0⟩ } [strobe]) =
        .next t :=
  ⟨by intro v; cases v <;> decide, ⟨_, rfl⟩⟩

theorem witness_ResetStateIsSound : Config.tc1.WellFormed := by decide

/-- A sound state under way: both motors at full speed, a servo in its hold, a sweep running. -/
theorem witness_StepKeepsSoundState :
    let s := given
      { moving with
        rampRate := 10, msCount := 9, filt := ⟨0xFFFF00, 0⟩, holdCount := ⟨3, 0⟩
        testActive := ⟨false, true⟩, testIndex := ⟨0, 8⟩, pwmVal := ⟨100, 100, 2000, 0⟩ }
      [commandOnStrobe 0x01000000]
    SoundState s ∧ ∃ t, step s = .next t :=
  ⟨{ configLegal := by decide
     speeds := by intro m; cases m <;> decide
     phase := by decide
     filter := by intro m; cases m <;> decide
     hold := by intro v; cases v <;> decide
     sweep := by intro v; cases v <;> decide
     drive := by intro m; cases m <;> decide
     servoChannel := by intro v; cases v <;> decide
     status := by decide }, ⟨_, rfl⟩⟩

theorem witness_TargetPersists :
    ∃ t, step (given moving [Inputs.command 0x01000028]) = .next t ∧
      t.speedTgt.get .left ≠ (given moving [Inputs.command 0x01000028]).speedTgt.get .left :=
  ⟨_, rfl, by decide⟩

theorem witness_RampRateAndConfigWriters :
    ∃ t, step (given moving [Inputs.command 0x0500000A]) = .next t ∧
      t.rampRate ≠ (given moving [Inputs.command 0x0500000A]).rampRate :=
  ⟨_, rfl, by decide⟩

/-- A motor command and the other motor's channel, a servo command and the other servo's. -/
theorem witness_ChannelsHaveOneOwner :
    ((∃ t, exec (.motorForward .left 40) base = .next t) ∧
      (∀ m, Channel.c1 = motorChannel m → setsTarget m (.motorForward .left 40) = false) ∧
      (∀ v, Channel.c1 = servoChannel v → drivesServo v (.motorForward .left 40) = false)) ∧
    ((∃ t, exec (.servoSet .s0 0) base = .next t) ∧
      (∀ m, Channel.c3 = motorChannel m → setsTarget m (.servoSet .s0 0) = false) ∧
      (∀ v, Channel.c3 = servoChannel v → drivesServo v (.servoSet .s0 0) = false)) ∧
    Channel.c1 ≠ motorChannel .left ∧ Channel.c3 ≠ servoChannel .s0 := by
  refine ⟨⟨⟨_, rfl⟩, ?_, ?_⟩, ⟨⟨_, rfl⟩, ?_, ?_⟩, by decide, by decide⟩ <;> intro x <;>
    cases x <;> decide

theorem witness_ServosAndMotorsApart :
    ((∃ t, exec (.servoSet .s0 0) base = .next t) ∧ drivesServo .s0 (.servoSet .s0 0) = true ∧
      Servo.s1 ≠ .s0) ∧
    (∃ t, exec (.motorBrake .right) base = .next t) ∧
      ∀ v, drivesServo v (.motorBrake .right) = false :=
  ⟨⟨⟨_, rfl⟩, rfl, by decide⟩, ⟨_, rfl⟩, fun _ => rfl⟩

/-- Two states that agree on motor 0 and differ in motor 1 and a servo, and two cycles whose
readings differ for motor 1. -/
theorem witness_MotorsAreIndependent :
    AgreeOnMotor .left moving { moving with speedCur := ⟨100, 7⟩, holdCount := ⟨5, 5⟩ } ∧
      strobe.isense.get .left = (Inputs.strobe ⟨100, 999⟩).isense.get .left ∧
      (∃ s', runCycle strobe moving = .next s') ∧
      ∃ t', runCycle (Inputs.strobe ⟨100, 999⟩)
        { moving with speedCur := ⟨100, 7⟩, holdCount := ⟨5, 5⟩ } = .next t' :=
  ⟨by decide, rfl, ⟨_, rfl⟩, ⟨_, rfl⟩⟩

/-- Two states that differ in the filter and the last sample, and two cycles whose readings
differ. -/
theorem witness_TelemetryNeverFedBack :
    withoutTelemetry moving =
        withoutTelemetry { moving with filt := ⟨0xFFFF00, 1⟩, currentRaw := ⟨9, 9⟩ } ∧
      withoutSense strobe = withoutSense (Inputs.strobe ⟨65535, 0⟩) ∧
      (∃ s', runCycle strobe moving = .next s') ∧
      (∃ t', runCycle (Inputs.strobe ⟨65535, 0⟩)
        { moving with filt := ⟨0xFFFF00, 1⟩, currentRaw := ⟨9, 9⟩ } = .next t') ∧
      ∀ m, performed strobe ≠ some (.motorGetCurrent m) :=
  ⟨rfl, rfl, ⟨_, rfl⟩, ⟨_, rfl⟩, fun m => by cases m <;> decide⟩

end Sys2Proof.Tests
end

section
/-! SUPPORT. The state family (10_state.md). Everything a cycle does after its start is a chain of
`Move`s, the smallest writes that keep the invariants of `SoundState`; a move names the channels it
may write, so the same chain answers for the invariants (R33 to R46), for the owner of a channel
(R50) and for the update strobes (R52, R53). The two noninterference statements (R35, R36) run two
cycles side by side instead. -/

namespace Sys2Proof.Machine

/-! ### Banks that hold one value -/

/-- A bank holding one value reads that value everywhere. -/
@[simp] theorem get_motorBank {α : Type} (a : α) (m : Motor) : (PerMotor.mk a a).get m = a := by
  cases m <;> rfl

@[simp] theorem get_servoBank {α : Type} (a : α) (v : Servo) : (PerServo.mk a a).get v = a := by
  cases v <;> rfl

@[simp] theorem get_channelBank {α : Type} (a : α) (c : Channel) :
    (PerChannel.mk a a a a).get c = a := by
  cases c <;> rfl

/-! ### Moves: what a cycle's operations are made of -/

/-- A speed motor `m` may be driven at: an operand's, or one between its current speed and its
target (R147, R224). -/
abbrev Drivable (s : State) (m : Motor) (v : Int) : Prop :=
  (-100 ≤ v ∧ v ≤ 100) ∨
    min (curSpeed s m) (tgtSpeed s m) ≤ v ∧ v ≤ max (curSpeed s m) (tgtSpeed s m)

/-- With the speeds in range, a motor is driven at a speed in range. -/
theorem Drivable.mem_range {s : State} {m : Motor} {v : Int} (h : Drivable s m v)
    (hs : SpeedsInRange s) : -100 ≤ v ∧ v ≤ 100 := by
  have := hs m
  omega

/-- One write of an operation that may write the channels of `C` only. -/
inductive Move (C : Set Channel) : State → State → Prop
  /-- The response of a command (R112). -/
  | respond (st echo data s) : Move C s (respond st echo data s)
  /-- `resp_valid` (R54). -/
  | valid (b s) : Move C s (setRespValid b s)
  /-- The tick phase restarts (R220, R221). -/
  | restart (s) : Move C s (setMsCount 0 s)
  /-- One more strobe is counted (R220). -/
  | count (s) (h : s.msCount.toNat + 1 < s.rampRate.toNat) : Move C s (setMsCount (s.msCount + 1) s)
  /-- A new ramp rate, and the phase restarts (R200). -/
  | rate (r s) : Move C s (setMsCount 0 (setRampRate r s))
  /-- A motor's current is sampled and filtered (R224, R225). -/
  | sample (x m s) : Move C s (sampleMotor x m s)
  /-- A motor's target (R170, R180). -/
  | target (m v s) (h : -100 ≤ v ∧ v ≤ 100) : Move C s (setSpeedTgt m (speedOfInt v) s)
  /-- A motor's current speed with its drive (R147, R224). -/
  | drive (m v s) (hm : motorChannel m ∈ C) (h : Drivable s m v) :
      Move C s (applySpeed m v (setSpeedCur m (speedOfInt v) s))
  /-- MOTOR_BRAKE (R190). -/
  | brake (m s) (hm : motorChannel m ∈ C) : Move C s (hbBrakeSupply m (stopSpeeds m s))
  /-- A hold counts down (R270). -/
  | countDown (v s) (h : 1 < (s.holdCount.get v).toNat) :
      Move C s (setHoldCount v (s.holdCount.get v - 1) s)
  /-- A hold ends and its channel is released (R270). -/
  | release (v s) (hv : servoChannel v ∈ C) :
      Move C s (pwmWrite (servoChannel v) 0 (setHoldCount v 0 s))
  /-- A servo is positioned and its hold starts (R262). -/
  | position (v a s) (hv : servoChannel v ∈ C) : Move C s (servoApply v a s)
  /-- A sweep starts or ends (R265, R271). -/
  | sweep (v b s) : Move C s (setTestIndex v 0 (setTestActive v b s))
  /-- A running sweep goes to its next point (R271). -/
  | point (v s) (ha : s.testActive.get v = true)
      (hk : (s.testIndex.get v).toNat ≠ 2 * s.cfg.sweepN) :
      Move C s (setTestIndex v (s.testIndex.get v + 1) s)

/-- A chain of moves. -/
abbrev Moves (C : Set Channel) : State → State → Prop := Relation.ReflTransGen (Move C)

/-- A move is a chain of one. -/
theorem Move.moves {C : Set Channel} {s t : State} (h : Move C s t) : Moves C s t := .single h

/-- More channels allow more. -/
theorem Move.mono {C D : Set Channel} (hCD : C ⊆ D) {s t : State} (h : Move C s t) :
    Move D s t := by
  cases h with
  | respond => exact .respond ..
  | valid => exact .valid ..
  | restart => exact .restart ..
  | count _ h => exact .count _ h
  | rate => exact .rate ..
  | sample => exact .sample ..
  | target _ _ _ h => exact .target _ _ _ h
  | drive _ _ _ hm h => exact .drive _ _ _ (hCD hm) h
  | brake _ _ hm => exact .brake _ _ (hCD hm)
  | countDown _ _ h => exact .countDown _ _ h
  | release _ _ hv => exact .release _ _ (hCD hv)
  | position _ _ _ hv => exact .position _ _ _ (hCD hv)
  | sweep => exact .sweep ..
  | point _ _ ha hk => exact .point _ _ ha hk

theorem Moves.mono {C D : Set Channel} (hCD : C ⊆ D) {s t : State} (h : Moves C s t) :
    Moves D s t :=
  Relation.ReflTransGen.mono (fun _ _ => Move.mono hCD) _ _ h

/-- A motor's part of a tick writes the motor's channel only (R50, R224). -/
theorem rampMotor_moves (x : PerMotor Half) (m : Motor) (s : State) :
    Moves {motorChannel m} s (rampMotor x m s) := by
  refine (Move.sample x m s).moves.trans ?_
  unfold rampMotor
  rcases convergeMotor_cases m (sampleMotor x m s) with ⟨h, e⟩ | ⟨h, e⟩ | ⟨-, e⟩ <;> rw [e]
  · exact .single (.drive _ _ _ (Set.mem_singleton _) (.inr ⟨by omega, by omega⟩))
  · exact .single (.drive _ _ _ (Set.mem_singleton _) (.inr ⟨by omega, by omega⟩))

/-- The timebase writes the motors' channels only (R50, R220). -/
theorem timebaseStep_moves (x : PerMotor Half) (s : State) :
    Moves (Set.range motorChannel) s (timebaseStep x s) := by
  have hramp : ∀ m s, Moves (Set.range motorChannel) s (rampMotor x m s) := fun m s =>
    (rampMotor_moves x m s).mono (Set.singleton_subset_iff.2 (Set.mem_range_self m))
  rcases timebaseStep_cases x s with ⟨-, e⟩ | ⟨-, -, e⟩ | ⟨-, h, e⟩ <;> rw [e]
  · exact (Move.restart s).moves
  · exact (Move.restart s).moves.trans ((hramp .left _).trans (hramp .right _))
  · exact (Move.count s h).moves

/-- A servo's strobe step writes the servo's channel only (R50, R270). -/
theorem servoStrobeStep_moves (v : Servo) (s : State) :
    Moves {servoChannel v} s (servoStrobeStep v s) := by
  rcases servoStrobeStep_cases v s with ⟨h, e⟩ | ⟨-, e⟩ | ⟨-, ha, e⟩ | ⟨-, -, e⟩ <;> rw [e]
  · exact (Move.countDown v s h).moves
  · exact (Move.release v s (Set.mem_singleton _)).moves
  · rcases servoTestAdvance_cases v s with ⟨-, e⟩ | ⟨hk, e⟩ <;> rw [e]
    · exact (Move.sweep v false s).moves
    · exact (Move.point v s ha hk).moves.trans (Move.position v _ _ (Set.mem_singleton _)).moves

/-- The channels a command may write: its motor's or its servo's (R50). -/
def ownedBy (i : Instr) : Set Channel :=
  {c | (∃ m, c = motorChannel m ∧ setsTarget m i = true) ∨
    ∃ v, c = servoChannel v ∧ drivesServo v i = true}

/-- A speed command's body writes its motor's channel only (R170, R180). -/
theorem speedCommand_moves {m : Motor} {v : Int} (h : -100 ≤ v ∧ v ≤ 100) (s : State) :
    Moves {motorChannel m} s (speedCommand m v s) := by
  unfold speedCommand
  split_ifs
  · exact (Move.target m v s h).moves.trans (Move.drive m v _ (Set.mem_singleton _) (.inl h)).moves
  · exact (Move.target m v s h).moves

/-- A speed operand's magnitude is 0..100 (R171). -/
theorem mag_zextImm_mem (imm : Half) : 0 ≤ mag (zextImm imm) ∧ mag (zextImm imm) ≤ 100 := by
  rw [mag_zextImm]
  omega

/-- A command writes the channels it owns only (R50). -/
theorem exec_moves {i : Instr} {s t : State} (h : exec i s = .next t) : Moves (ownedBy i) s t := by
  have hresp : ∀ {st echo data u}, Moves (ownedBy i) s u →
      Moves (ownedBy i) s (respond st echo data u) := fun hu => hu.tail (.respond ..)
  have hmotor : ∀ m, setsTarget m i = true → {motorChannel m} ⊆ ownedBy i := fun m hm =>
    Set.singleton_subset_iff.2 (.inl ⟨m, rfl, hm⟩)
  have hservo : ∀ v, drivesServo v i = true → servoChannel v ∈ ownedBy i := fun v hv =>
    .inr ⟨v, rfl, hv⟩
  cases i with
  | motorForward m imm =>
    cases h
    have := mag_zextImm_mem imm
    exact hresp ((speedCommand_moves (by omega) s).mono (hmotor m (by simp [setsTarget])))
  | motorBackward m imm =>
    cases h
    have := mag_zextImm_mem imm
    exact hresp ((speedCommand_moves (by omega) s).mono (hmotor m (by simp [setsTarget])))
  | motorBrake m =>
    cases h
    exact hresp (Move.brake m s (hmotor m (by simp [setsTarget]) rfl)).moves
  | motorNeutral m =>
    cases h
    exact hresp ((Move.target m 0 s (by omega)).moves.tail
      (.drive m 0 _ (hmotor m (by simp [setsTarget]) rfl) (.inl (by omega))))
  | motorSetRampRate imm =>
    cases h
    exact hresp (Move.rate _ s).moves
  | servoSet v imm =>
    simp only [exec, execServoSet] at h
    split_ifs at h <;> cases h
    · exact hresp .refl
    · exact hresp .refl
    · exact hresp (Move.position v _ s (hservo v (by simp [drivesServo]))).moves
  | servoTest v =>
    simp only [exec, execServoTest] at h
    split_ifs at h <;> cases h
    · exact hresp .refl
    · exact hresp ((Move.sweep v true s).moves.tail
        (.position v _ _ (hservo v (by simp [drivesServo]))))
  | _ =>
    cases h
    exact hresp .refl

/-- The autonomous operations of a cycle are moves. -/
theorem autonomousPhase_moves (inp : Inputs) (s : State) :
    Moves Set.univ s (autonomousPhase inp s) := by
  unfold autonomousPhase
  split_ifs
  · exact ((timebaseStep_moves inp.isense s).mono (Set.subset_univ _)).trans
      (((servoStrobeStep_moves .s0 _).mono (Set.subset_univ _)).trans
        ((servoStrobeStep_moves .s1 _).mono (Set.subset_univ _)))
  · exact .refl

/-- A cycle is a reset, or a chain of moves from its start (R60). -/
theorem runCycle_moves {inp : Inputs} {s t : State} (h : runCycle inp s = .next t) :
    (inp.rst = true ∧ t = resetState s) ∨ (inp.rst = false ∧ Moves Set.univ (beginCycle s) t) := by
  have hauto := autonomousPhase_moves inp (beginCycle s)
  rcases runCycle_cases h with ⟨hr, -, rfl⟩ | ⟨hr, -, -, rfl⟩ | ⟨i, u, hr, -, -, -, hu, rfl⟩ |
    ⟨e, hr, -, -, -, rfl⟩
  · exact .inl ⟨hr, rfl⟩
  · exact .inr ⟨hr, hauto.tail (.valid ..)⟩
  · exact .inr ⟨hr, (hauto.trans ((exec_moves hu).mono (Set.subset_univ _))).tail (.valid ..)⟩
  · exact .inr ⟨hr, (hauto.tail (.respond ..)).tail (.valid ..)⟩

/-- What every move keeps, a chain of moves keeps. -/
theorem Moves.keeps {C : Set Channel} {P : State → Prop} (hmove : ∀ {s t}, Move C s t → P s → P t)
    {s t : State} (h : Moves C s t) (hs : P s) : P t := by
  induction h with
  | refl => exact hs
  | tail _ hlast ih => exact hmove hlast ih

/-- What a reset, a cycle's start and every move keep, every step keeps. -/
theorem step_keeps {P : State → Prop} (hreset : ∀ s, P s → P (resetState s))
    (hbegin : ∀ s inputs draws, P s → P (beginCycle { s with inputs := inputs, draws := draws }))
    (hmove : ∀ {s t}, Move Set.univ s t → P s → P t) {s t : State} (hs : P s)
    (h : step s = .next t) : P t := by
  have hstart := hbegin s (afterSampling s).inputs (afterSampling s).draws hs
  rw [← afterSampling_eq] at hstart
  rcases runCycle_moves (step_next h).2 with ⟨-, rfl⟩ | ⟨-, hmoves⟩
  · exact (hreset _ hstart :)
  · exact hmoves.keeps hmove hstart

end Sys2Proof.Machine
end

section
/-! SUPPORT. The invariants of `SoundState` (R33 to R46, D8): each move keeps each of them, and they
hold after reset. -/

namespace Sys2Proof.Machine

/-! ### Every move keeps the invariants -/

/-- The speeds stay in range (R33). -/
theorem Move.keeps_speeds {C : Set Channel} {s t : State} (h : Move C s t)
    (hs : SpeedsInRange s) : SpeedsInRange t := by
  intro n
  have hn := hs n
  cases h with
  | target m v _ hv =>
    have := toInt_speedOfInt (v := v) (by omega) (by omega)
    by_cases hnm : n = m
    · subst hnm
      simp_all [tgtSpeed, curSpeed]
    · simpa [tgtSpeed, curSpeed, hnm] using hn
  | drive m v _ _ hv =>
    have hmem := hv.mem_range hs
    have := toInt_speedOfInt (v := v) (by omega) (by omega)
    by_cases hnm : n = m
    · subst hnm
      exact ⟨by simpa [tgtSpeed] using hn.1, by simpa [curSpeed, this] using hmem⟩
    · simpa [tgtSpeed, curSpeed, hnm] using hn
  | brake m =>
    by_cases hnm : n = m
    · simp [tgtSpeed, curSpeed, hbBrakeSupply, stopSpeeds, hnm]
    · simpa [tgtSpeed, curSpeed, hbBrakeSupply, stopSpeeds, hnm] using hn
  | _ => exact hn

/-- The tick phase is in range when it is 0 or below the rate. -/
theorem phaseInRange_iff (s : State) :
    PhaseInRange s ↔ s.msCount = 0 ∨ s.msCount.toNat < s.rampRate.toNat := by
  unfold PhaseInRange
  split_ifs with hr
  · simp [hr]
  · refine ⟨fun h => .inr h, fun h => h.elim (fun h0 => ?_) id⟩
    exact h0 ▸ (BitVec.pos_iff_ne_zero _).2 hr

/-- The tick phase stays in range (R38). -/
theorem Move.keeps_phase {C : Set Channel} {s t : State} (h : Move C s t)
    (hs : PhaseInRange s) : PhaseInRange t := by
  cases h with
  | restart => exact (phaseInRange_iff _).2 (.inl rfl)
  | rate r => exact (phaseInRange_iff _).2 (.inl rfl)
  | count _ h =>
    have hfits : s.msCount.toNat + (1 : Half).toNat < 2 ^ 16 := h.trans s.rampRate.isLt
    refine (phaseInRange_iff _).2 (.inr ?_)
    rw [setMsCount_msCount, BitVec.toNat_add_of_lt hfits]
    exact h
  | drive m v => simpa [PhaseInRange] using hs
  | _ => exact hs

/-- The sweep index stays in range (R41). -/
theorem Move.keeps_sweep {C : Set Channel} {s t : State} (h : Move C s t)
    (hs : SweepInRange s) : SweepInRange t := by
  intro w
  have hw := hs w
  cases h with
  | drive m v => simpa using hw
  | sweep v b =>
    by_cases hwv : w = v
    · simp [hwv]
    · simpa [hwv] using hw
  | point v _ ha hk =>
    by_cases hwv : w = v
    · subst hwv
      simp [ha]
      omega
    · simpa [hwv] using hw
  | _ => exact hw

/-- A hold above 1 counts down without wrapping. -/
theorem toNat_sub_one {n : Half} (h : 1 < n.toNat) : (n - 1).toNat = n.toNat - 1 :=
  BitVec.toNat_sub_of_le (BitVec.le_def.2 h.le)

/-- A servo's hold starts at the settle time and only counts down from there (R30, R262). -/
theorem Move.keeps_hold {C : Set Channel} {s t : State} (h : Move C s t) (hc : s.cfg.WellFormed)
    (hs : HoldInRange s) : HoldInRange t := by
  intro w
  have hw := hs w
  cases h with
  | drive m v => simpa using hw
  | countDown v _ h =>
    by_cases hwv : w = v
    · subst hwv
      have hdown := toNat_sub_one h
      simp only [setHoldCount_holdCount, PerServo.get_set, if_true, setHoldCount_cfg]
      omega
    · simpa [hwv] using hw
  | release v =>
    by_cases hwv : w = v
    · simp [hwv]
    · simpa [hwv] using hw
  | position v a =>
    by_cases hwv : w = v
    · simpa [hwv, servoApply] using (toNat_settle hc).le
    · simpa [hwv, servoApply] using hw
  | _ => exact hw

/-- A positioned servo holds for at least one strobe (R8, R262). -/
theorem settle_ne_zero {c : Config} (h : c.WellFormed) : halfOfInt c.settleMs ≠ 0 := fun h0 => by
  have hzero : (halfOfInt c.settleMs).toNat = 0 := congrArg BitVec.toNat h0
  rw [toNat_settle h] at hzero
  obtain ⟨-, -, -, -, -, ⟨hpos, -⟩, -⟩ := h
  omega

/-- A servo's channel follows its hold (R262, R270, R272). -/
theorem Move.keeps_servoChannel {C : Set Channel} {s t : State} (h : Move C s t)
    (hc : s.cfg.WellFormed) (hs : ServoChannelFollowsHold s) : ServoChannelFollowsHold t := by
  intro w
  have hw := hs w
  cases h with
  | drive m v _ _ _ =>
    have := applySpeed_servoRegs w m v (setSpeedCur m (speedOfInt v) s)
    simp only [servoRegs, Prod.mk.injEq] at this
    obtain ⟨hh, -, -, hp, -⟩ := this
    rw [hh, hp]
    simpa using hw
  | brake m => simpa [hbBrakeSupply, stopSpeeds] using hw
  | countDown v _ h =>
    by_cases hwv : w = v
    · subst hwv
      refine ⟨fun h0 => ?_, fun _ => by simpa using hw.2 fun h0 => by simp [h0] at h⟩
      have hzero : (s.holdCount.get w - 1).toNat = 0 := congrArg BitVec.toNat (by simpa using h0)
      rw [toNat_sub_one h] at hzero
      omega
    · simpa [hwv] using hw
  | release v =>
    by_cases hwv : w = v
    · simp [hwv]
    · simpa [hwv] using hw
  | position v a =>
    by_cases hwv : w = v
    · subst hwv
      refine ⟨fun h0 => absurd (by simpa [servoApply] using h0) (settle_ne_zero hc), fun _ => ?_⟩
      simpa [servoApply] using servoDuty_mem (monotone_of_wellFormed hc w) a
    · simpa [hwv, servoApply] using hw
  | _ => exact hw

/-- The response's status stays one of six (R113). -/
theorem Move.keeps_status {C : Set Channel} {s t : State} (h : Move C s t)
    (hs : StatusLegal s) : StatusLegal t := by
  cases h with
  | respond st => simpa [StatusLegal, Machine.respond] using statusCode_le_five st
  | drive m v => simpa [StatusLegal] using hs
  | _ => exact hs

/-- Nothing writes the configuration (R8). -/
theorem Move.cfg_eq {C : Set Channel} {s t : State} (h : Move C s t) : t.cfg = s.cfg := by
  cases h with
  | drive m v => simp
  | _ => rfl

/-! ### The filter (R226, R227) -/

/-- `FilterStep` lands between the old value and the input (R227). -/
theorem filterValue_mem {a : Nat} (h1 : 1 ≤ a) (h2 : a ≤ 256) {f x M : Int} (hf0 : 0 ≤ f)
    (hfM : f ≤ M) (hx0 : 0 ≤ x * 256) (hxM : x * 256 ≤ M) :
    0 ≤ filterValue a f x ∧ filterValue a f x ≤ M := by
  unfold filterValue fdiv
  rw [Int.fdiv_eq_ediv_of_nonneg _ (by omega)]
  have hlo : min 0 (x * 256 - f) ≤ ((x * 256 - f) * a + 127) / 256 := by
    rw [Int.le_ediv_iff_mul_le (by omega)]
    rcases le_total 0 (x * 256 - f) with hd | hd
    · rw [min_eq_left hd]; positivity
    · rw [min_eq_right hd]; nlinarith
  have hhi : ((x * 256 - f) * a + 127) / 256 ≤ max 0 (x * 256 - f) := by
    rw [← Int.lt_add_one_iff, Int.ediv_lt_iff_lt_mul (by omega)]
    rcases le_total 0 (x * 256 - f) with hd | hd
    · rw [max_eq_right hd]; nlinarith
    · rw [max_eq_left hd]; nlinarith
  omega

/-- `FilterStep` keeps the register within 0..0xFFFF00 (R227). -/
theorem filterStep_le {c : Config} (h : c.WellFormed) {f : FiltWord} (hf : f.toNat ≤ 0xFFFF00)
    (x : Half) : (filterStep c f x).toNat ≤ 0xFFFF00 := by
  obtain ⟨-, -, -, ⟨h1, h2⟩, -⟩ := h
  have hx := x.isLt
  have hmem := filterValue_mem h1 h2 (f := intOfFilt f) (x := intOfHalf x) (M := 0xFFFF00)
    (by simp [intOfFilt]) (by simp [intOfFilt]; omega) (by simp [intOfHalf])
    (by simp [intOfHalf]; omega)
  unfold filterStep
  generalize filterValue c.alphaQ8 (intOfFilt f) (intOfHalf x) = v at hmem
  obtain ⟨n, rfl⟩ := Int.eq_ofNat_of_zero_le hmem.1
  simp [filtOfInt]
  omega

/-- The filter state stays in range (R227). -/
theorem Move.keeps_filter {C : Set Channel} {s t : State} (h : Move C s t)
    (hc : s.cfg.WellFormed) (hs : FilterInRange s) : FilterInRange t := by
  intro n
  have hn := hs n
  cases h with
  | sample x m =>
    by_cases hnm : n = m
    · subst hnm
      simpa [sampleMotor] using filterStep_le hc hn _
    · simpa [sampleMotor, hnm] using hn
  | drive m v => simpa using hn
  | _ => exact hn

/-! ### The drive state (R46, R140, R152) -/

/-- The current speed of a motor and what its pins and channel show (R32, R45). -/
def driveRegs (n : Motor) (s : State) :=
  (curSpeed s n, s.dirA.get n, s.dirB.get n, s.en.get n, s.pwmVal.get (motorChannel n))

/-- A move leaves a motor's current speed and drive state, or drives the motor at a speed, or
brakes it. -/
theorem Move.driveRegs_cases {C : Set Channel} {s t : State} (h : Move C s t) (n : Motor) :
    driveRegs n t = driveRegs n s ∨
      (∃ v, Drivable s n v ∧ t = applySpeed n v (setSpeedCur n (speedOfInt v) s)) ∨
      t = hbBrakeSupply n (stopSpeeds n s) := by
  cases h with
  | drive m v _ hm hv =>
    by_cases hnm : n = m
    · subst hnm
      exact .inr (.inl ⟨v, hv, rfl⟩)
    · have ho := (applySpeed_other hnm v (setSpeedCur m (speedOfInt v) s)).trans
        (setSpeedCur_other hnm _ s)
      simp only [motorRegs, Prod.mk.injEq] at ho
      simp only [driveRegs, curSpeed, ho, true_or]
  | brake m =>
    by_cases hnm : n = m
    · exact .inr (.inr (by rw [hnm]))
    · simp [driveRegs, curSpeed, hbBrakeSupply, stopSpeeds, hnm]
  | release v => simp [driveRegs, curSpeed]
  | position v a => simp [driveRegs, curSpeed, servoApply]
  | _ => exact .inl rfl

/-- `ApplySpeed` leaves one of the three driving patterns, whatever the speed (R147, R152). -/
theorem applySpeed_pattern (m : Motor) (v : Int) (s : State) :
    Coasts (applySpeed m v s) m ∨
      (∃ d, 0 ≤ d ∧ d ≤ 100 ∧ DrivesCW (applySpeed m v s) m d) ∨
      ∃ d, 0 ≤ d ∧ d ≤ 100 ∧ DrivesCCW (applySpeed m v s) m d := by
  rcases applySpeed_cases m v s with ⟨-, d, h0, h1, e⟩ | ⟨-, d, h0, h1, e⟩ | ⟨-, e⟩ <;> rw [e]
  · have hd := toNat_halfOfInt h0 (by omega)
    exact .inr (.inl ⟨d, h0, h1, by simp [DrivesCW, intOfHalf, hd]⟩)
  · have hd := toNat_halfOfInt h0 (by omega)
    exact .inr (.inr ⟨d, h0, h1, by simp [DrivesCCW, intOfHalf, hd]⟩)
  · exact .inl (by simp [Coasts])

/-- `ApplySpeed` of a speed in range shows that speed (R147). -/
theorem applySpeed_shows {m : Motor} {v : Int} (hv : -100 ≤ v ∧ v ≤ 100) (s : State) :
    (0 < v → DrivesCW (applySpeed m v s) m v) ∧ (v < 0 → DrivesCCW (applySpeed m v s) m (-v)) ∧
      (v = 0 → Coasts (applySpeed m v s) m) := by
  refine ⟨fun h => ?_, fun h => ?_, fun h => ?_⟩
  · rw [applySpeed_pos h hv.2]
    simp [DrivesCW, intOfHalf, toNat_halfOfInt h.le (by omega)]
  · rw [applySpeed_neg h hv.1]
    simp [DrivesCCW, intOfHalf, toNat_halfOfInt (v := -v) (by omega) (by omega)]
  · rw [h, applySpeed_zero]
    simp [Coasts]

/-- MOTOR_BRAKE's pattern is BRAKE (R144, R190). -/
theorem hbBrakeSupply_brakes (m : Motor) (s : State) : Brakes (hbBrakeSupply m s) m := by
  simp [Brakes, hbBrakeSupply]

/-- The pins keep showing one of the four patterns (R46, R152). -/
theorem Move.keeps_pattern {C : Set Channel} {s t : State} (h : Move C s t)
    (hs : DrivePatternLegal s) : DrivePatternLegal t := by
  intro n
  rcases h.driveRegs_cases n with hsame | ⟨v, -, rfl⟩ | rfl
  · simp only [driveRegs, Prod.mk.injEq] at hsame
    obtain ⟨-, ha, hb, he, hp⟩ := hsame
    simpa only [Coasts, DrivesCW, DrivesCCW, Brakes, ha, hb, he, hp] using hs n
  · exact (applySpeed_pattern n v _).imp_right fun h => h.imp_right .inl
  · exact .inr (.inr (.inr (hbBrakeSupply_brakes n _)))

/-- The drive state stays the mapping of the current speed, but for a brake at 0 (D8). -/
theorem Move.keeps_drive {C : Set Channel} {s t : State} (h : Move C s t) (hr : SpeedsInRange s)
    (hs : DriveFollowsSpeed s) : DriveFollowsSpeed t := by
  intro n
  rcases h.driveRegs_cases n with hsame | ⟨v, hv, rfl⟩ | rfl
  · simp only [driveRegs, Prod.mk.injEq] at hsame
    obtain ⟨hc, ha, hb, he, hp⟩ := hsame
    simpa only [Coasts, DrivesCW, DrivesCCW, Brakes, hc, ha, hb, he, hp] using hs n
  · have hv := hv.mem_range hr
    have hcur : curSpeed (applySpeed n v (setSpeedCur n (speedOfInt v) s)) n = v := by
      simpa [curSpeed] using toInt_speedOfInt (v := v) (by omega) (by omega)
    obtain ⟨hcw, hccw, hcoast⟩ := applySpeed_shows (m := n) hv (setSpeedCur n (speedOfInt v) s)
    rw [hcur]
    exact ⟨hcw, hccw, fun h => .inl (hcoast h)⟩
  · have hcur : curSpeed (hbBrakeSupply n (stopSpeeds n s)) n = 0 := by
      simp [curSpeed, hbBrakeSupply, stopSpeeds]
    rw [hcur]
    exact ⟨fun h => absurd h (by omega), fun h => absurd h (by omega),
      fun _ => .inr (hbBrakeSupply_brakes n _)⟩

/-- Every move keeps a sound state sound. -/
theorem Move.keeps_sound {C : Set Channel} {s t : State} (h : Move C s t) (hs : SoundState s) :
    SoundState t where
  configLegal := h.cfg_eq ▸ hs.configLegal
  speeds := h.keeps_speeds hs.speeds
  phase := h.keeps_phase hs.phase
  filter := h.keeps_filter hs.configLegal hs.filter
  hold := h.keeps_hold hs.configLegal hs.hold
  sweep := h.keeps_sweep hs.sweep
  drive := h.keeps_drive hs.speeds hs.drive
  servoChannel := h.keeps_servoChannel hs.configLegal hs.servoChannel
  status := h.keeps_status hs.status

/-! ### The state after reset (R360, R362) -/

/-- Every motor coasts after reset (R146, R362). -/
theorem afterReset_coasts (c : Config) (m : Motor) : Coasts (State.afterReset c) m := by
  simp [Coasts, State.afterReset]

/-- The speeds are in range after reset (R33, R362). -/
theorem afterReset_speeds (c : Config) : SpeedsInRange (State.afterReset c) := fun m => by
  simp [tgtSpeed, curSpeed, State.afterReset]

/-- The tick phase is in range after reset (R38, R362). -/
theorem afterReset_phase (c : Config) : PhaseInRange (State.afterReset c) :=
  (phaseInRange_iff _).2 (.inl rfl)

/-- The pins show COAST after reset (R152, R362). -/
theorem afterReset_pattern (c : Config) : DrivePatternLegal (State.afterReset c) := fun m =>
  .inl (afterReset_coasts c m)

/-- No sweep runs after reset (R41, R362). -/
theorem afterReset_sweep (c : Config) : SweepInRange (State.afterReset c) := fun v => by
  simp [State.afterReset]

/-- Every invariant holds after reset, under any legal configuration (R362). -/
theorem afterReset_sound {c : Config} (hc : c.WellFormed) : SoundState (State.afterReset c) where
  configLegal := hc
  speeds := afterReset_speeds c
  phase := afterReset_phase c
  filter m := by simp [State.afterReset]
  hold v := by simp [State.afterReset]
  sweep := afterReset_sweep c
  drive m := by
    have hcur : curSpeed (State.afterReset c) m = 0 := by simp [curSpeed, State.afterReset]
    rw [hcur]
    exact ⟨fun h => absurd h (by omega), fun h => absurd h (by omega),
      fun _ => .inl (afterReset_coasts c m)⟩
  servoChannel v := by simp [State.afterReset]
  status := by simp [StatusLegal, State.afterReset, responseStatus]

/-- A reset cycle leaves the state after reset of the same unit; the queued inputs and the draw
counter, which no invariant reads, stay (R360). -/
theorem resetState_eq (s : State) :
    resetState s = { State.afterReset s.cfg with inputs := s.inputs, draws := s.draws } := rfl

/-- A sound state does not depend on the inputs to come. -/
theorem SoundState.withInputs {s : State} (hs : SoundState s) (inputs : List Inputs) (draws : Nat) :
    SoundState { s with inputs := inputs, draws := draws } := by
  obtain ⟨h1, h2, h3, h4, h5, h6, h7, h8, h9⟩ := hs
  exact ⟨h1, h2, h3, h4, h5, h6, h7, h8, h9⟩

/-- A sound state stays sound at the start of a cycle. -/
theorem SoundState.beginCycle {s : State} (hs : SoundState s) : SoundState (beginCycle s) := by
  obtain ⟨h1, h2, h3, h4, h5, h6, h7, h8, h9⟩ := hs
  exact ⟨h1, h2, h3, h4, h5, h6, h7, h8, h9⟩

/-- Settles O54: a reset leaves a sound state, and each move of a cycle keeps one sound. -/
theorem stepKeepsSoundState : Obligations.StepKeepsSoundState := by
  intro s t hs h
  refine step_keeps (P := SoundState) (fun s hs => ?_) (fun s _ _ hs => ?_)
    (fun hm hs => hm.keeps_sound hs) hs h
  · rw [resetState_eq]
    exact (afterReset_sound hs.configLegal).withInputs _ _
  · exact (hs.withInputs _ _).beginCycle

/-- Settles O53: one argument for every legal configuration, TC1 among them. -/
theorem resetStateIsSound : Obligations.ResetStateIsSound :=
  ⟨fun _ hc => afterReset_sound hc, afterReset_sound (by decide)⟩

/-- Settles O49, by the moves of a cycle. -/
theorem speedsStayInRange : Obligations.SpeedsStayInRange :=
  ⟨afterReset_speeds, fun _ _ hs h => step_keeps (P := SpeedsInRange)
    (fun s _ => afterReset_speeds s.cfg) (fun _ _ _ hs => hs) (fun hm => hm.keeps_speeds) hs h⟩

/-- Settles O50, by the moves of a cycle. -/
theorem phaseStaysBelowRate : Obligations.PhaseStaysBelowRate :=
  ⟨afterReset_phase, fun _ => rfl, fun _ _ hs h => step_keeps (P := PhaseInRange)
    (fun s _ => afterReset_phase s.cfg) (fun _ _ _ hs => hs) (fun hm => hm.keeps_phase) hs h⟩

/-- Settles O52, by the moves of a cycle. -/
theorem sweepIndexStaysInRange : Obligations.SweepIndexStaysInRange :=
  ⟨afterReset_sweep, fun _ _ hs h => step_keeps (P := SweepInRange)
    (fun s _ => afterReset_sweep s.cfg) (fun _ _ _ hs => hs) (fun hm => hm.keeps_sweep) hs h⟩

/-- In a legal drive pattern the drive mode names the pattern (R46, R140). -/
theorem driveMode_of_pattern {s : State} (m : Motor) (hs : DrivePatternLegal s) :
    (s.en.get m = true ↔ driveMode s m ≠ 0) ∧
      (driveMode s m ≠ 1 → driveMode s m ≠ 2 → s.pwmVal.get (motorChannel m) = 0) ∧
      (driveMode s m = 0 ↔ Coasts s m) ∧ (driveMode s m = 1 ↔ ∃ d, DrivesCW s m d) ∧
      (driveMode s m = 2 ↔ ∃ d, DrivesCCW s m d) ∧ (driveMode s m = 3 ↔ Brakes s m) := by
  rcases hs m with ⟨ha, hb, he, hp⟩ | ⟨d, -, -, ha, hb, he, hp⟩ | ⟨d, -, -, ha, hb, he, hp⟩ |
    ⟨ha, hb, he, hp⟩ <;> simp [driveMode, Coasts, DrivesCW, DrivesCCW, Brakes, ha, hb, he, hp]

/-- Settles O51, by the moves of a cycle. -/
theorem drivePatternStaysLegal : Obligations.DrivePatternStaysLegal :=
  ⟨afterReset_pattern, fun _ _ hs h => step_keeps (P := DrivePatternLegal)
    (fun s _ => afterReset_pattern s.cfg) (fun _ _ _ hs => hs) (fun hm => hm.keeps_pattern) hs h,
    fun _ m hs => driveMode_of_pattern m hs⟩

end Sys2Proof.Machine
end

section
/-! SUPPORT. One cycle (R54, R60), who writes the ramp rate (R37), and the channels: their owners
(R50), their update strobes and the trace (R52, R53). -/

namespace Sys2Proof.Machine

/-! ### One cycle (R54, R60) -/

/-- A cycle without reset whose word decodes performs that command. -/
theorem performed_of_decode {inp : Inputs} {i : Instr} (hr : inp.rst = false)
    (hv : inp.cmdValid = true) (hd : decode inp.cmdWord = .ok i) : performed inp = some i := by
  simp [performed, hr, hv, hd]

/-- Settles O40: a step is the cycle of its sampled inputs, which performs the decoded command. -/
theorem stepRunsDecodedCommand : Obligations.StepRunsDecodedCommand := by
  intro s t i hc hr hv hd ht
  rw [step_eq_runCycle hc]
  exact runCycle_performed (performed_of_decode hr hv hd) ht

/-- A cycle with neither reset nor command ends with its autonomous operations (R60). -/
theorem runCycle_idle {inp : Inputs} (hr : inp.rst = false) (hv : inp.cmdValid = false)
    (s : State) :
    runCycle inp s = .next (setRespValid false (autonomousPhase inp (beginCycle s))) := by
  simp [runCycle, commandPhase, hr, hv]

/-- With a strobe, the autonomous operations are the strobe's (R60). -/
theorem autonomousPhase_strobe {inp : Inputs} (h : inp.msStrobe = true) (s : State) :
    autonomousPhase inp s = strobePhase inp.isense s := if_pos h

/-- Without a strobe there are none (R60, R89). -/
theorem autonomousPhase_quiet {inp : Inputs} (h : inp.msStrobe = false) (s : State) :
    autonomousPhase inp s = s := if_neg (by simp [h])

/-- Settles O41, from what a cycle is with a strobe and without, with a command and without. -/
theorem cycleOrder : Obligations.CycleOrder := by
  intro inp s hr
  refine ⟨fun hs hv => ?_, fun hs i t hp ht => ?_, fun hs hv => ?_⟩
  · rw [runCycle_idle hr hv, autonomousPhase_strobe hs]
    rfl
  · refine runCycle_performed hp ?_
    rw [autonomousPhase_strobe hs]
    exact ht
  · rw [runCycle_idle hr hv, autonomousPhase_quiet hs]
    rfl

/-- The autonomous operations leave the response word (R54). -/
theorem autonomousPhase_respWord (inp : Inputs) (s : State) :
    (autonomousPhase inp s).respWord = s.respWord := by
  unfold autonomousPhase strobePhase
  split_ifs <;> simp

/-- Sampling the inputs leaves the response word. -/
theorem afterSampling_respWord (s : State) : (afterSampling s).respWord = s.respWord := by
  rw [afterSampling_eq]

/-- Settles O44, by the four ways a cycle can answer. -/
theorem responseValidFollowsCommand : Obligations.ResponseValidFollowsCommand := by
  intro s t h
  rcases runCycle_cases (step_next h).2 with ⟨hr, -, rfl⟩ | ⟨hr, hv, -, rfl⟩ |
    ⟨i, u, hr, hv, -, -, -, rfl⟩ | ⟨e, hr, hv, -, -, rfl⟩
  · simp [resetState, hr]
  · simp [hr, hv, autonomousPhase_respWord, afterSampling_respWord]
  · simp [hr, hv]
  · simp [hr, hv]

/-- Only MOTOR_SET_RAMP_RATE sets the ramp rate, to its operand (R37, R200). -/
theorem exec_setsRampRate {i : Instr} (h : setsRampRate i = true) {s t : State}
    (he : exec i s = .next t) : ∃ r, i = .motorSetRampRate r ∧ t.rampRate = r := by
  cases i with
  | motorSetRampRate r =>
    cases he
    exact ⟨r, rfl, by simp [respond, halfOfInt, zextImm]⟩
  | _ => cases h

/-- Settles O56, by the four ways a cycle can answer. -/
theorem rampRateAndConfigWriters : Obligations.RampRateAndConfigWriters := by
  intro s t h
  obtain ⟨-, hrun⟩ := step_next h
  have hsamp : (afterSampling s).cfg = s.cfg ∧ (afterSampling s).rampRate = s.rampRate := by
    rw [afterSampling_eq]
    exact ⟨rfl, rfl⟩
  obtain ⟨-, -, -, hauto⟩ := autonomousPhase_cfg (sampledInputs s) (afterSampling s)
  refine ⟨(runCycle_cfg hrun).1.trans hsamp.1, fun hne => ?_⟩
  rcases runCycle_cases hrun with ⟨hr, -, -⟩ | ⟨-, -, -, rfl⟩ | ⟨i, u, -, -, hp, -, hu, rfl⟩ |
    ⟨e, -, -, -, -, rfl⟩
  · exact .inl hr
  · exact absurd (hauto.trans hsamp.2) hne
  · cases hi : setsRampRate i with
    | false => exact absurd ((exec_timebase hi hu).1.trans (hauto.trans hsamp.2)) hne
    | true =>
      obtain ⟨r, rfl, hur⟩ := exec_setsRampRate hi hu
      exact .inr ⟨r, hp, hur⟩
  · exact absurd (hauto.trans hsamp.2) hne

/-! ### Channels: owners, update strobes and the trace (R50, R52, R53) -/

theorem SameChannel.refl (c : Channel) (s : State) : SameChannel c s s := ⟨rfl, rfl, rfl⟩

theorem SameChannel.trans {c : Channel} {s t u : State} (h1 : SameChannel c t s)
    (h2 : SameChannel c u t) : SameChannel c u s :=
  ⟨h2.1.trans h1.1, h2.2.1.trans h1.2.1, h2.2.2.trans h1.2.2⟩

/-- Driving a motor leaves every channel but the motor's. -/
theorem applySpeed_sameChannel {c : Channel} {m : Motor} (h : c ≠ motorChannel m) (v : Int)
    (s : State) : SameChannel c (applySpeed m v s) s := by
  rcases applySpeed_cases m v s with ⟨-, d, -, -, e⟩ | ⟨-, d, -, -, e⟩ | ⟨-, e⟩ <;> rw [e] <;>
    simp [SameChannel, h, h.symm, eventOfChannel]

/-- A move leaves every channel it may not write. -/
theorem Move.sameChannel {C : Set Channel} {s t : State} (h : Move C s t) {c : Channel}
    (hc : c ∉ C) : SameChannel c t s := by
  have hne : ∀ {d}, d ∈ C → c ≠ d := fun hd hcd => hc (hcd ▸ hd)
  cases h with
  | drive m v _ hm => exact applySpeed_sameChannel (hne hm) v _
  | brake m _ hm =>
    have := hne hm
    simp [SameChannel, hbBrakeSupply, stopSpeeds, this, this.symm, eventOfChannel]
  | release v _ hv =>
    have := hne hv
    simp [SameChannel, this, this.symm, eventOfChannel]
  | position v a _ hv =>
    have := hne hv
    simp [SameChannel, servoApply, this, this.symm, eventOfChannel]
  | _ => exact .refl c _

/-- A chain of moves leaves every channel it may not write. -/
theorem Moves.sameChannel {C : Set Channel} {s t : State} (h : Moves C s t) {c : Channel}
    (hc : c ∉ C) : SameChannel c t s :=
  h.keeps (P := fun t => SameChannel c t s) (fun hm hs => hs.trans (hm.sameChannel hc)) (.refl c s)

/-- Settles O57: each operation is a chain of moves on the channels it owns. -/
theorem channelsHaveOneOwner : Obligations.ChannelsHaveOneOwner := by
  refine ⟨fun i s t c h hm hv => (exec_moves h).sameChannel ?_,
    fun x m s c hc => (rampMotor_moves x m s).sameChannel hc,
    fun x s v => (timebaseStep_moves x s).sameChannel ?_,
    fun v s c hc => (servoStrobeStep_moves v s).sameChannel hc⟩
  · rintro (⟨m, rfl, hi⟩ | ⟨v, rfl, hi⟩)
    · simp [hm m rfl] at hi
    · simp [hv v rfl] at hi
  · rintro ⟨m, hm⟩
    exact motorChannel_ne_servoChannel m v hm

/-- There is no last write exactly when there is no write. -/
theorem lastPwm_eq_none (c : Channel) (es : List Event) :
    lastPwm c es = none ↔ ∀ v, Event.pwm c v ∉ es := by
  induction es with
  | nil => simp [lastPwm]
  | cons e es ih =>
    cases e with
    | pin => simpa [lastPwm] using ih
    | pwm d v =>
      by_cases hd : d = c
      · refine iff_of_false ?_ fun h => h v (by simp [hd])
        cases hl : lastPwm c es <;> simp [lastPwm, hl, hd]
      · cases hl : lastPwm c es <;> simp_all [lastPwm, Ne.symm]

/-- Appending a write to the channel makes it the last one. -/
theorem lastPwm_append_pwm (c : Channel) (v : Half) (es : List Event) :
    lastPwm c (es ++ [.pwm c v]) = some v := by
  induction es with
  | nil => simp [lastPwm]
  | cons e es ih => cases e <;> simp [lastPwm, ih]

/-- The last write to a channel is read off the channel's own events. -/
theorem lastPwm_filter (c : Channel) (es : List Event) :
    lastPwm c (es.filter (eventOfChannel c)) = lastPwm c es := by
  induction es with
  | nil => rfl
  | cons e es ih =>
    cases e with
    | pin => simpa [lastPwm, eventOfChannel] using ih
    | pwm d v =>
      by_cases hd : d = c
      · simp [lastPwm, eventOfChannel, hd, ih]
      · cases hl : lastPwm c es <;> simp [lastPwm, eventOfChannel, hd, ih, hl]

/-- In a cycle so far, which began with value `v₀` in channel `c`: the update strobe says whether
the trace holds a write to it, the last one is its value, and without one it has `v₀`. -/
def Marked (c : Channel) (v₀ : Half) (s : State) : Prop :=
  lastPwm c s.trace = (if s.pwmUpd.get c = true then some (s.pwmVal.get c) else none) ∧
    (s.pwmUpd.get c = false → s.pwmVal.get c = v₀)

/-- A channel left alone stays marked. -/
theorem Marked.of_sameChannel {c : Channel} {v₀ : Half} {s t : State} (hs : Marked c v₀ s)
    (h : SameChannel c t s) : Marked c v₀ t := by
  obtain ⟨hval, hupd, htrace⟩ := h
  unfold Marked
  rw [hval, hupd, ← lastPwm_filter, htrace, lastPwm_filter]
  exact hs

/-- A channel just written is marked, whatever was there (R13, R52). -/
theorem marked_pwmWrite (c : Channel) (v₀ v : Half) (s : State) : Marked c v₀ (pwmWrite c v s) := by
  simp [Marked, lastPwm_append_pwm]

/-- A move keeps every channel marked: it writes the channel last, or leaves it. -/
theorem Move.keeps_marked {C : Set Channel} {s t : State} (h : Move C s t) {c : Channel}
    {v₀ : Half} (hs : Marked c v₀ s) : Marked c v₀ t := by
  have hsame : ∀ {d}, Move {d} s t → c ≠ d → Marked c v₀ t := fun hm hne =>
    hs.of_sameChannel (hm.sameChannel hne)
  cases h with
  | drive m v _ _ hv =>
    by_cases hc : c = motorChannel m
    · subst hc
      rcases applySpeed_cases m v (setSpeedCur m (speedOfInt v) s) with
        ⟨-, d, -, -, e⟩ | ⟨-, d, -, -, e⟩ | ⟨-, e⟩ <;> rw [e] <;> exact marked_pwmWrite _ _ _ _
    · exact hsame (.drive m v s (Set.mem_singleton _) hv) hc
  | brake m =>
    by_cases hc : c = motorChannel m
    · exact hc ▸ marked_pwmWrite _ _ _ _
    · exact hsame (.brake m s (Set.mem_singleton _)) hc
  | release v =>
    by_cases hc : c = servoChannel v
    · exact hc ▸ marked_pwmWrite _ _ _ _
    · exact hsame (.release v s (Set.mem_singleton _)) hc
  | position v a =>
    by_cases hc : c = servoChannel v
    · subst hc
      exact marked_pwmWrite _ v₀ (servoDuty s.cfg v a) s
    · exact hsame (.position v a s (Set.mem_singleton _)) hc
  | _ => exact hs

/-- At a cycle's start no channel has been written (R52, R60). -/
theorem marked_beginCycle (c : Channel) (s : State) : Marked c (s.pwmVal.get c) (beginCycle s) := by
  simp [Marked, lastPwm]

/-- The update strobe of a marked channel says whether the trace holds a write to it. -/
theorem Marked.upd_iff {c : Channel} {v₀ : Half} {s : State} (h : Marked c v₀ s) :
    s.pwmUpd.get c = true ↔ ∃ v, Event.pwm c v ∈ s.trace := by
  have hnone := lastPwm_eq_none c s.trace
  rw [h.1] at hnone
  cases hu : s.pwmUpd.get c <;> simp_all

/-- Settles O46: in a cycle that is no reset every channel stays marked along the moves. -/
theorem updateStrobeMarksWrites : Obligations.UpdateStrobeMarksWrites := by
  intro s t c h
  rcases runCycle_moves (step_next h).2 with ⟨hr, rfl⟩ | ⟨hr, hmoves⟩
  · simp [resetState, lastPwm, hr]
  · have hm : Marked c ((afterSampling s).pwmVal.get c) t :=
      hmoves.keeps (fun hm => hm.keeps_marked) (marked_beginCycle c _)
    have hval : (afterSampling s).pwmVal = s.pwmVal := by rw [afterSampling_eq]
    exact ⟨hm.upd_iff, hm.1, fun hr' => by simp [hr] at hr', fun _ hu => hval ▸ hm.2 hu⟩

end Sys2Proof.Machine
end

section
/-! SUPPORT. Two cycles side by side: a motor's outcome depends on nothing of the other motor or the
servos (R36, R234), and telemetry is never fed back (R35, R233). -/

namespace Sys2Proof.Machine

/-! ### Two cycles side by side -/

/-- A relation between two states that survives a reset, the autonomous operations, the response
and the command survives two cycles that present the same reset and command. -/
theorem runCycle_rel {R : State → State → Prop} {inp inp' : Inputs} {s t s' t' : State}
    (hrst : inp.rst = inp'.rst) (hvalid : inp.cmdValid = inp'.cmdValid)
    (hword : inp.cmdWord = inp'.cmdWord) (hreset : R (resetState s) (resetState t))
    (hauto : R (autonomousPhase inp (beginCycle s)) (autonomousPhase inp' (beginCycle t)))
    (hflag : ∀ b {s t}, R s t → R (setRespValid b s) (setRespValid b t))
    (hrespond : ∀ w {s t}, R s t → R (setRespWord w s) (setRespWord w t))
    (hexec : ∀ {i s t s' t'}, performed inp = some i → R s t → exec i s = .next s' →
      exec i t = .next t' → R s' t')
    (hs : runCycle inp s = .next s') (ht : runCycle inp' t = .next t') : R s' t' := by
  have hperf : performed inp = performed inp' := by simp only [performed, hrst, hvalid, hword]
  rcases runCycle_cases hs with ⟨hr, -, rfl⟩ | ⟨hr, hv, -, rfl⟩ | ⟨i, u, hr, hv, hp, hd, hu, rfl⟩ |
    ⟨e, hr, hv, -, hd, rfl⟩
  · simp only [runCycle, ← hrst, hr, if_true, Host.Outcome.next.injEq] at ht
    exact ht ▸ hreset
  · rw [runCycle_idle (hrst ▸ hr) (hvalid ▸ hv)] at ht
    cases ht
    exact hflag _ hauto
  · obtain ⟨u', hu'⟩ := exec_answers i (autonomousPhase inp' (beginCycle t))
    rw [runCycle_performed (hperf ▸ hp) hu'] at ht
    cases ht
    exact hflag _ (hexec hp hauto hu hu')
  · simp only [runCycle, commandPhase, execute, ← hrst, hr, ← hvalid, hv, ← hword, hd,
      if_true] at ht
    cases ht
    exact hflag _ (hrespond _ hauto)

/-! ### A motor's outcome (R36, R234) -/

/-- Agreement on a motor is agreement on what it owns, the timebase and the configuration. -/
theorem agreeOnMotor_iff {m : Motor} {s t : State} :
    AgreeOnMotor m s t ↔ motorRegs m s = motorRegs m t ∧ s.rampRate = t.rampRate ∧
      s.msCount = t.msCount ∧ s.cfg = t.cfg := by
  simp only [AgreeOnMotor, motorRegs, Prod.mk.injEq]
  tauto

/-- Agreement survives a new tick phase. -/
theorem setMsCount_agree {m : Motor} {s t : State} (h : AgreeOnMotor m s t) (n : Half) :
    AgreeOnMotor m (setMsCount n s) (setMsCount n t) := by
  obtain ⟨hregs, hrate, -, hcfg⟩ := agreeOnMotor_iff.1 h
  exact agreeOnMotor_iff.2 ⟨hregs, hrate, rfl, hcfg⟩

/-- Agreement survives a tick with the same reading for the motor (R234). -/
theorem rampTick_agree {m : Motor} {x y : PerMotor Half} {s t : State} (h : AgreeOnMotor m s t)
    (hx : x.get m = y.get m) : AgreeOnMotor m (rampTick x s) (rampTick y t) := by
  obtain ⟨hregs, hrate, hcount, hcfg⟩ := agreeOnMotor_iff.1 h
  refine agreeOnMotor_iff.2 ⟨?_, by simpa, by simpa, by simpa⟩
  rw [rampTick_regs, rampTick_regs]
  exact rampMotor_congr hregs hcfg hx

/-- Agreement survives the timebase: both states tick or neither does (R220). -/
theorem timebaseStep_agree {m : Motor} {x y : PerMotor Half} {s t : State}
    (h : AgreeOnMotor m s t) (hx : x.get m = y.get m) :
    AgreeOnMotor m (timebaseStep x s) (timebaseStep y t) := by
  obtain ⟨-, hrate, hcount, -⟩ := agreeOnMotor_iff.1 h
  unfold timebaseStep tickDue
  rw [hrate, hcount]
  split_ifs
  · exact setMsCount_agree h _
  · exact rampTick_agree (setMsCount_agree h _) hx
  · exact setMsCount_agree h _

/-- Agreement survives a servo's strobe step (R273). -/
theorem servoStrobeStep_agree {m : Motor} {s t : State} (h : AgreeOnMotor m s t) (v : Servo) :
    AgreeOnMotor m (servoStrobeStep v s) (servoStrobeStep v t) := by
  simpa [agreeOnMotor_iff, servoStrobeStep_motorRegs] using agreeOnMotor_iff.1 h

/-- Agreement survives the autonomous operations. -/
theorem autonomousPhase_agree {m : Motor} {inp inp' : Inputs} {s t : State}
    (h : AgreeOnMotor m s t) (hstrobe : inp.msStrobe = inp'.msStrobe)
    (hx : inp.isense.get m = inp'.isense.get m) :
    AgreeOnMotor m (autonomousPhase inp s) (autonomousPhase inp' t) := by
  unfold autonomousPhase
  rw [hstrobe]
  split_ifs
  · exact servoStrobeStep_agree (servoStrobeStep_agree (timebaseStep_agree h hx) _) _
  · exact h

/-- A new target leaves motor registers that depend on the motor's registers only. -/
theorem setSpeedTgt_congr {m : Motor} {s t : State} (h : motorRegs m s = motorRegs m t)
    (v : Speed) : motorRegs m (setSpeedTgt m v s) = motorRegs m (setSpeedTgt m v t) := by
  simp only [motorRegs, Prod.mk.injEq] at h
  simp [motorRegs, h]

/-- So does a new current speed. -/
theorem setSpeedCur_congr {m : Motor} {s t : State} (h : motorRegs m s = motorRegs m t)
    (v : Speed) : motorRegs m (setSpeedCur m v s) = motorRegs m (setSpeedCur m v t) := by
  simp only [motorRegs, Prod.mk.injEq] at h
  simp [motorRegs, h]

/-- A speed command's body depends on the motor's registers and the ramp rate only (R170, R180). -/
theorem speedCommand_congr {m : Motor} {s t : State} (h : motorRegs m s = motorRegs m t)
    (hrate : s.rampRate = t.rampRate) (v : Int) :
    motorRegs m (speedCommand m v s) = motorRegs m (speedCommand m v t) := by
  unfold speedCommand
  rw [hrate]
  split_ifs
  · exact applySpeed_congr (setSpeedCur_congr (setSpeedTgt_congr h _) _)
  · exact setSpeedTgt_congr h _

/-- What a motor's own command leaves in its registers depends on those and the ramp rate only. -/
theorem exec_motorRegs_congr {m : Motor} {i : Instr} {s t s' t' : State}
    (hregs : motorRegs m s = motorRegs m t) (hrate : s.rampRate = t.rampRate)
    (hi : setsTarget m i = true) (hs : exec i s = .next s') (ht : exec i t = .next t') :
    motorRegs m s' = motorRegs m t' := by
  cases i with
  | motorForward n imm =>
    obtain rfl : n = m := by simpa [setsTarget] using hi
    cases hs; cases ht
    exact speedCommand_congr hregs hrate _
  | motorBackward n imm =>
    obtain rfl : n = m := by simpa [setsTarget] using hi
    cases hs; cases ht
    exact speedCommand_congr hregs hrate _
  | motorBrake n =>
    obtain rfl : n = m := by simpa [setsTarget] using hi
    cases hs; cases ht
    simp only [motorRegs, Prod.mk.injEq] at hregs
    simp [motorRegs, respond, hbBrakeSupply, stopSpeeds, hregs]
  | motorNeutral n =>
    obtain rfl : n = m := by simpa [setsTarget] using hi
    cases hs; cases ht
    exact applySpeed_congr (v := 0) (setSpeedCur_congr (setSpeedTgt_congr hregs 0) 0)
  | _ => cases hi

/-- Agreement survives a command. -/
theorem exec_agree {m : Motor} {i : Instr} {s t s' t' : State} (h : AgreeOnMotor m s t)
    (hs : exec i s = .next s') (ht : exec i t = .next t') : AgreeOnMotor m s' t' := by
  obtain ⟨hregs, hrate, hcount, hcfg⟩ := agreeOnMotor_iff.1 h
  have hregs' : motorRegs m s' = motorRegs m t' := by
    cases hi : setsTarget m i with
    | false => rw [exec_motorRegs hi hs, exec_motorRegs hi ht, hregs]
    | true => exact exec_motorRegs_congr hregs hrate hi hs ht
  have htime : s'.rampRate = t'.rampRate ∧ s'.msCount = t'.msCount := by
    cases hi : setsRampRate i with
    | false =>
      obtain ⟨hr, hc⟩ := exec_timebase hi hs
      obtain ⟨hr', hc'⟩ := exec_timebase hi ht
      exact ⟨by rw [hr, hr', hrate], by rw [hc, hc', hcount]⟩
    | true =>
      obtain ⟨r, rfl, -⟩ := exec_setsRampRate hi hs
      cases hs; cases ht
      exact ⟨rfl, rfl⟩
  refine agreeOnMotor_iff.2 ⟨hregs', htime.1, htime.2, ?_⟩
  rw [(exec_cfg hs).1, (exec_cfg ht).1, hcfg]

/-- Settles O59: each part of a cycle keeps two states that agree on a motor in agreement. -/
theorem motorsAreIndependent : Obligations.MotorsAreIndependent := by
  intro m s t s' t' inp inp' h hrst hvalid hword hstrobe hx hs ht
  have hcfg : s.cfg = t.cfg := (agreeOnMotor_iff.1 h).2.2.2
  have hbegin : AgreeOnMotor m (beginCycle s) (beginCycle t) := by
    simp only [AgreeOnMotor] at h
    simp [AgreeOnMotor, h]
  refine runCycle_rel (R := AgreeOnMotor m) hrst hvalid hword ?_
    (autonomousPhase_agree hbegin hstrobe hx) (fun _ _ _ h => h) (fun _ _ _ h => h)
    (fun _ => exec_agree) hs ht
  exact agreeOnMotor_iff.2 ⟨rfl, rfl, rfl, hcfg⟩

/-! ### Telemetry (R35, R233)

Every operation but sampling commutes with forgetting the telemetry, and sampling changes nothing
else. -/

section
variable (s : State)

/-- Sampling is invisible without the telemetry. -/
theorem sampleMotor_withoutTelemetry (x : PerMotor Half) (m : Motor) :
    withoutTelemetry (sampleMotor x m s) = withoutTelemetry s := rfl

/-- Driving a motor does not touch the telemetry (R147). -/
theorem applySpeed_withoutTelemetry (m : Motor) (v : Int) :
    withoutTelemetry (applySpeed m v s) = applySpeed m v (withoutTelemetry s) := by
  unfold applySpeed
  split_ifs <;> rfl

/-- A convergence step does not touch the telemetry (R228). -/
theorem convergeMotor_withoutTelemetry (m : Motor) :
    withoutTelemetry (convergeMotor m s) = convergeMotor m (withoutTelemetry s) := by
  simp only [convergeMotor, apply_ite withoutTelemetry, applySpeed_withoutTelemetry]
  rfl

/-- Without the telemetry, a tick is the two convergence steps, whatever the readings (R223). -/
theorem rampTick_withoutTelemetry (x : PerMotor Half) :
    withoutTelemetry (rampTick x s) =
      convergeMotor .right (convergeMotor .left (withoutTelemetry s)) := by
  simp only [rampTick, rampMotor, convergeMotor_withoutTelemetry, sampleMotor_withoutTelemetry]

/-- A sweep's advance does not touch the telemetry (R271). -/
theorem servoTestAdvance_withoutTelemetry (v : Servo) :
    withoutTelemetry (servoTestAdvance v s) = servoTestAdvance v (withoutTelemetry s) :=
  apply_ite withoutTelemetry _ _ _

/-- A servo's strobe step does not touch the telemetry (R270). -/
theorem servoStrobeStep_withoutTelemetry (v : Servo) :
    withoutTelemetry (servoStrobeStep v s) = servoStrobeStep v (withoutTelemetry s) := by
  simp only [servoStrobeStep, apply_ite withoutTelemetry, servoTestAdvance_withoutTelemetry]
  rfl

/-- A speed command's body does not touch the telemetry (R170, R180). -/
theorem speedCommand_withoutTelemetry (m : Motor) (v : Int) :
    withoutTelemetry (speedCommand m v s) = speedCommand m v (withoutTelemetry s) := by
  simp only [speedCommand, apply_ite withoutTelemetry, applySpeed_withoutTelemetry]
  rfl

end

/-- Two states that differ in telemetry only differ so after the timebase, whatever the readings. -/
theorem timebaseStep_telemetry (x y : PerMotor Half) {s t : State}
    (h : withoutTelemetry s = withoutTelemetry t) :
    withoutTelemetry (timebaseStep x s) = withoutTelemetry (timebaseStep y t) := by
  have hrate : s.rampRate = t.rampRate := (congrArg State.rampRate h :)
  have hcount : s.msCount = t.msCount := (congrArg State.msCount h :)
  have hset : ∀ n, withoutTelemetry (setMsCount n s) = withoutTelemetry (setMsCount n t) := fun n =>
    congrArg (setMsCount n) h
  unfold timebaseStep tickDue
  rw [hrate, hcount]
  split_ifs
  · exact hset _
  · rw [rampTick_withoutTelemetry, rampTick_withoutTelemetry, hset]
  · exact hset _

/-- And after the autonomous operations. -/
theorem autonomousPhase_telemetry {inp inp' : Inputs} (hstrobe : inp.msStrobe = inp'.msStrobe)
    {s t : State} (h : withoutTelemetry s = withoutTelemetry t) :
    withoutTelemetry (autonomousPhase inp s) = withoutTelemetry (autonomousPhase inp' t) := by
  unfold autonomousPhase
  rw [hstrobe]
  split_ifs
  · simp only [strobePhase, servoStrobeStep_withoutTelemetry,
      timebaseStep_telemetry inp.isense inp'.isense h]
  · exact h

/-- What a command leaves, without the telemetry, and the response of any but MOTOR_GET_CURRENT are
those of the same command without the telemetry. -/
theorem exec_withoutTelemetry {i : Instr} {s s' : State} (h : exec i s = .next s') :
    ∃ u, exec i (withoutTelemetry s) = .next u ∧ withoutTelemetry s' = withoutTelemetry u ∧
      ((∀ m, i ≠ .motorGetCurrent m) → s'.respWord = u.respWord) := by
  have hspeed : ∀ m v, withoutTelemetry (speedCommand m v s) =
      withoutTelemetry (speedCommand m v (withoutTelemetry s)) := fun m v => by
    simp only [speedCommand_withoutTelemetry]
    rfl
  cases i with
  | motorForward m imm =>
    cases h
    exact ⟨_, rfl, hspeed _ _, fun _ => rfl⟩
  | motorBackward m imm =>
    cases h
    exact ⟨_, rfl, hspeed _ _, fun _ => rfl⟩
  | motorGetCurrent m =>
    cases h
    exact ⟨_, rfl, rfl, fun hne => absurd rfl (hne m)⟩
  | servoSet v imm =>
    simp only [exec, execServoSet] at h
    split_ifs at h with h1 h2 <;> cases h
    · exact ⟨_, if_pos h1, rfl, fun _ => rfl⟩
    · exact ⟨_, (if_neg h1).trans (if_pos h2), rfl, fun _ => rfl⟩
    · exact ⟨_, (if_neg h1).trans (if_neg h2), rfl, fun _ => rfl⟩
  | servoTest v =>
    simp only [exec, execServoTest] at h
    split_ifs at h with h1 <;> cases h
    · exact ⟨_, if_pos h1, rfl, fun _ => rfl⟩
    · exact ⟨_, if_neg h1, rfl, fun _ => rfl⟩
  | _ =>
    cases h
    exact ⟨_, rfl, rfl, fun _ => rfl⟩

/-- And after a command, with the same response unless it is MOTOR_GET_CURRENT. -/
theorem exec_telemetry {i : Instr} {s t s' t' : State}
    (h : withoutTelemetry s = withoutTelemetry t) (hs : exec i s = .next s')
    (ht : exec i t = .next t') :
    withoutTelemetry s' = withoutTelemetry t' ∧
      ((∀ m, i ≠ .motorGetCurrent m) → s'.respWord = t'.respWord) := by
  obtain ⟨u, hu, hsu, hsr⟩ := exec_withoutTelemetry hs
  obtain ⟨u', hu', htu, htr⟩ := exec_withoutTelemetry ht
  rw [h, hu'] at hu
  cases hu
  exact ⟨hsu.trans htu.symm, fun hne => (hsr hne).trans (htr hne).symm⟩

/-- Settles O60: each part of a cycle keeps two states that differ in telemetry only so, and their
response words equal unless the command reads the filter. -/
theorem telemetryNeverFedBack : Obligations.TelemetryNeverFedBack := by
  intro s t s' t' inp inp' h hinp hs ht
  have hrst : inp.rst = inp'.rst := (congrArg Inputs.rst hinp :)
  have hvalid : inp.cmdValid = inp'.cmdValid := (congrArg Inputs.cmdValid hinp :)
  have hword : inp.cmdWord = inp'.cmdWord := (congrArg Inputs.cmdWord hinp :)
  have hstrobe : inp.msStrobe = inp'.msStrobe := (congrArg Inputs.msStrobe hinp :)
  have hreset : withoutTelemetry (resetState s) = withoutTelemetry (resetState t) :=
    congrArg resetState h
  have hbegin : withoutTelemetry (beginCycle s) = withoutTelemetry (beginCycle t) :=
    congrArg beginCycle h
  have hauto := autonomousPhase_telemetry hstrobe hbegin
  refine ⟨?_, fun hresp hne => ?_⟩
  · exact runCycle_rel (R := fun s t => withoutTelemetry s = withoutTelemetry t) hrst hvalid hword
      hreset hauto (fun b _ _ h => congrArg (setRespValid b) h) (fun _ _ _ h => h)
      (fun _ h hs ht => (exec_telemetry h hs ht).1) hs ht
  · refine (runCycle_rel (R := fun s t => withoutTelemetry s = withoutTelemetry t ∧
      s.respWord = t.respWord) hrst hvalid hword ⟨hreset, rfl⟩ ⟨hauto, ?_⟩
      (fun b _ _ h => ⟨congrArg (setRespValid b) h.1, h.2⟩) (fun _ _ _ h => ⟨h.1, rfl⟩)
      (fun hp h hs ht => ?_) hs ht).2
    · rw [autonomousPhase_respWord, autonomousPhase_respWord]
      exact hresp
    · obtain ⟨htel, hword⟩ := exec_telemetry h.1 hs ht
      exact ⟨htel, hword fun m him => hne m (him ▸ hp)⟩

end Sys2Proof.Machine
end

section
/-! SUPPORT. The encoding family (30_encoding.md). The decoder is inverted once: a word fails the
opcode check, a must-be-0 check or the id check, or it builds a command (R114). The two round trips
and the order of the checks are read off that; the response of a cycle is read off what a command
can answer with (R112, R113) and what a rejected word leaves (R320). -/

namespace Sys2Proof

/-! ### The dispatch checks (R109 to R111, R114) -/

/-- The first field check of R114 is the sub-format's constraint on `id`. -/
theorem idUnusedIsZero_iff (f : SubFormat) (c : CommandFields) :
    c.IdUnusedIsZero f ↔ ¬ (f.idMustBeZero = true ∧ c.id ≠ 0) := by
  cases f <;> simp [CommandFields.IdUnusedIsZero, SubFormat.idMustBeZero]

/-- The second field check of R114 is the sub-format's constraint on `imm`. -/
theorem immUnusedIsZero_iff (f : SubFormat) (c : CommandFields) :
    c.ImmUnusedIsZero f ↔ ¬ (f.immMustBeZero = true ∧ c.imm ≠ 0) := by
  cases f <;> simp [CommandFields.ImmUnusedIsZero, SubFormat.immMustBeZero]

/-- Fields build no command exactly when the sub-format takes an id and the id names nothing. -/
theorem buildInstr_eq_none_iff (op : Opcode) (c : CommandFields) :
    buildInstr op c.id c.imm = none ↔ ¬ c.IdExists op.subFormat := by
  cases op with
  | nop | motorGetRampRate | motorSetRampRate =>
    simp [buildInstr, Opcode.subFormat, CommandFields.IdExists]
  | servoSet | servoTest | servoGetStatus =>
    simp [buildInstr, Opcode.subFormat, CommandFields.IdExists, servo_ofId_eq_none]
  | _ => simp [buildInstr, Opcode.subFormat, CommandFields.IdExists, motor_ofId_eq_none]

/-- A command built from fields that meet the must-be-0 constraints has those fields. -/
theorem fields_of_buildInstr {op : Opcode} {c : CommandFields} {i : Instr}
    (hid : c.IdUnusedIsZero op.subFormat) (himm : c.ImmUnusedIsZero op.subFormat)
    (h : buildInstr op c.id c.imm = some i) :
    i.opcode = op ∧ i.idField = c.id ∧ i.immField = c.imm := by
  cases op with
  | nop | motorGetRampRate =>
    cases h
    exact ⟨rfl, (hid (.inl rfl)).symm, (himm (.inl rfl)).symm⟩
  | motorSetRampRate =>
    cases h
    exact ⟨rfl, (hid (.inr rfl)).symm, rfl⟩
  | motorForward | motorBackward =>
    obtain ⟨m, hm, rfl⟩ := Option.map_eq_some_iff.1 h
    exact ⟨rfl, idField_of_motor_ofId hm, rfl⟩
  | servoSet =>
    obtain ⟨v, hv, rfl⟩ := Option.map_eq_some_iff.1 h
    exact ⟨rfl, idField_of_servo_ofId hv, rfl⟩
  | servoTest | servoGetStatus =>
    obtain ⟨v, hv, rfl⟩ := Option.map_eq_some_iff.1 h
    exact ⟨rfl, idField_of_servo_ofId hv, (himm (.inr (.inr rfl))).symm⟩
  | _ =>
    obtain ⟨m, hm, rfl⟩ := Option.map_eq_some_iff.1 h
    exact ⟨rfl, idField_of_motor_ofId hm, (himm (.inr (.inl rfl))).symm⟩

/-- How the checks on a defined opcode's fields end (R114). -/
theorem decodeFields_cases (op : Opcode) (c : CommandFields) :
    (¬ (c.IdUnusedIsZero op.subFormat ∧ c.ImmUnusedIsZero op.subFormat) ∧
      decodeFields op c.id c.imm = .error .reservedField) ∨
    (c.IdUnusedIsZero op.subFormat ∧ c.ImmUnusedIsZero op.subFormat ∧
      ¬ c.IdExists op.subFormat ∧ decodeFields op c.id c.imm = .error .badId) ∨
    ∃ i, c.WellFormed op.subFormat ∧ buildInstr op c.id c.imm = some i ∧
      decodeFields op c.id c.imm = .ok i := by
  unfold decodeFields
  split_ifs with hid himm
  · exact .inl ⟨fun h => (idUnusedIsZero_iff _ c).1 h.1 hid, rfl⟩
  · exact .inl ⟨fun h => (immUnusedIsZero_iff _ c).1 h.2 himm, rfl⟩
  · rw [← idUnusedIsZero_iff] at hid
    rw [← immUnusedIsZero_iff] at himm
    have hnone := buildInstr_eq_none_iff op c
    cases hb : buildInstr op c.id c.imm with
    | none => exact .inr (.inl ⟨hid, himm, hnone.1 hb, rfl⟩)
    | some i =>
      have hex : c.IdExists op.subFormat := not_not.1 fun hne => by simp [hnone.2 hne] at hb
      exact .inr (.inr ⟨i, ⟨hid, himm, hex⟩, rfl, rfl⟩)

/-- A word with a reserved opcode is illegal (R109). -/
theorem decode_of_ofByte_none {w : Word} (h : Opcode.ofByte (fieldsOf w).op = none) :
    decode w = .error .illegalOpcode := by
  simp only [decode, h]

/-- A word with a defined opcode is decided by the checks on its fields (R114). -/
theorem decode_of_ofByte_some {w : Word} {op : Opcode}
    (h : Opcode.ofByte (fieldsOf w).op = some op) :
    decode w = decodeFields op (fieldsOf w).id (fieldsOf w).imm := by
  simp only [decode, h]

/-- The checks on a defined opcode's fields never find the opcode illegal. -/
theorem decodeFields_ne_illegalOpcode (op : Opcode) (c : CommandFields) :
    decodeFields op c.id c.imm ≠ .error .illegalOpcode := by
  rcases decodeFields_cases op c with ⟨-, h⟩ | ⟨-, -, -, h⟩ | ⟨i, -, -, h⟩ <;> simp [h]

/-- A word is an illegal opcode exactly when the map has none for it (R109). -/
theorem decode_eq_illegalOpcode_iff (w : Word) :
    decode w = .error .illegalOpcode ↔ Opcode.ofByte (fieldsOf w).op = none := by
  refine ⟨fun h => ?_, decode_of_ofByte_none⟩
  cases hop : Opcode.ofByte (fieldsOf w).op with
  | none => rfl
  | some op =>
    rw [decode_of_ofByte_some hop] at h
    exact absurd h (decodeFields_ne_illegalOpcode op _)

/-! ### The round trips (R100 to R108, R83) -/

/-- Every command's fields meet its sub-format's constraints and build the command again. -/
theorem encodeFields (i : Instr) : Laws.EncodeFields.Statement i := by
  cases i with
  | nop => exact Laws.EncodeFields.nop
  | motorForward m imm => exact Laws.EncodeFields.motorForward m imm
  | motorBackward m imm => exact Laws.EncodeFields.motorBackward m imm
  | motorBrake m => exact Laws.EncodeFields.motorBrake m
  | motorNeutral m => exact Laws.EncodeFields.motorNeutral m
  | motorSetRampRate imm => exact Laws.EncodeFields.motorSetRampRate imm
  | motorGetRampRate => exact Laws.EncodeFields.motorGetRampRate
  | motorGetSpeedTarget m => exact Laws.EncodeFields.motorGetSpeedTarget m
  | motorGetSpeedCurrent m => exact Laws.EncodeFields.motorGetSpeedCurrent m
  | motorGetCurrent m => exact Laws.EncodeFields.motorGetCurrent m
  | motorGetDriveMode m => exact Laws.EncodeFields.motorGetDriveMode m
  | servoSet v imm => exact Laws.EncodeFields.servoSet v imm
  | servoTest v => exact Laws.EncodeFields.servoTest v
  | servoGetStatus v => exact Laws.EncodeFields.servoGetStatus v

/-- The fields of a command's encoding (R100). -/
theorem fieldsOf_encode (i : Instr) :
    fieldsOf (encode i) = ⟨i.opcode.byte, i.idField, i.immField⟩ :=
  fieldsOf_packWord _ _ _

/-- Decoding inverts encoding: the encoding passes every check and builds the command. -/
theorem decode_encode (i : Instr) : decode (encode i) = .ok i := by
  obtain ⟨hop, ⟨hid, himm, hex⟩, hbuild⟩ := encodeFields i
  rw [← fieldsOf_encode] at hid himm hex
  have hdec := decode_of_ofByte_some (w := encode i) (op := i.opcode) (by rwa [fieldsOf_encode])
  rcases decodeFields_cases i.opcode (fieldsOf (encode i)) with ⟨hn, -⟩ | ⟨-, -, hn, -⟩ |
    ⟨j, -, hj, hok⟩
  · exact absurd ⟨hid, himm⟩ hn
  · exact absurd hex hn
  · rw [fieldsOf_encode, hbuild] at hj
    cases hj
    exact hdec.trans hok

/-- A word that decodes carries the command's own fields. -/
theorem fieldsOf_of_decode {w : Word} {i : Instr} (h : decode w = .ok i) :
    fieldsOf w = ⟨i.opcode.byte, i.idField, i.immField⟩ := by
  cases hop : Opcode.ofByte (fieldsOf w).op with
  | none => simp [decode_of_ofByte_none hop] at h
  | some op =>
    rw [decode_of_ofByte_some hop] at h
    rcases decodeFields_cases op (fieldsOf w) with ⟨-, he⟩ | ⟨-, -, -, he⟩ |
      ⟨j, ⟨hid, himm, -⟩, hbuild, hok⟩
    · simp [he] at h
    · simp [he] at h
    · rw [hok] at h
      cases h
      obtain ⟨rfl, hidf, himmf⟩ := fields_of_buildInstr hid himm hbuild
      rw [byte_of_ofByte hop, hidf, himmf]

/-- Settles O3: the encoding decodes to the command, and the link gives the encoding back. -/
theorem decodeEncodeAgree : Obligations.DecodeEncodeAgree := fun i =>
  ⟨decode_encode i, fun rest => by rw [decodeLinkBytes_linkBytesOf, decode_encode]⟩

/-- Settles O4: a word is the packing of its fields, and they are those of the command. -/
theorem encodeDecodeAgree : Obligations.EncodeDecodeAgree := by
  intro w i h
  have hfields := fieldsOf_of_decode h
  calc encode i = packWord (fieldsOf w).op (fieldsOf w).id (fieldsOf w).imm := by
        rw [hfields, encode]
    _ = w := packWord_fieldsOf w

/-- Settles O5, from how the checks on a word's fields can end. -/
theorem dispatchChecksInOrder : Obligations.DispatchChecksInOrder := by
  intro w
  refine ⟨(decode_eq_illegalOpcode_iff w).trans (ofByte_eq_none _), fun op hop => ?_⟩
  rw [decode_of_ofByte_some hop]
  rcases decodeFields_cases op (fieldsOf w) with ⟨hn, h⟩ | ⟨hid, himm, hn, h⟩ | ⟨i, hwf, -, h⟩ <;>
    rw [h]
  · exact ⟨⟨nofun, fun ⟨hid, himm, _⟩ => absurd ⟨hid, himm⟩ hn⟩, ⟨fun _ => hn, fun _ => rfl⟩,
      ⟨nofun, fun ⟨hid, himm, _⟩ => absurd ⟨hid, himm⟩ hn⟩⟩
  · exact ⟨⟨nofun, fun hwf => absurd hwf.2.2 hn⟩,
      ⟨nofun, fun hres => absurd ⟨hid, himm⟩ hres⟩,
      ⟨fun _ => ⟨hid, himm, hn⟩, fun _ => rfl⟩⟩
  · obtain ⟨hid, himm, hex⟩ := hwf
    exact ⟨⟨fun _ => ⟨hid, himm, hex⟩, fun _ => ⟨i, rfl⟩⟩,
      ⟨nofun, fun hres => absurd ⟨hid, himm⟩ hres⟩, ⟨nofun, fun hbad => absurd hex hbad.2.2⟩⟩

namespace Machine

/-! ### The response (R112, R113, R320, R321) -/

/-- What a command can answer with (R113, R321): OK, with data only from a read-back;
OUT_OF_RANGE from SERVO_SET; BUSY from SERVO_SET and SERVO_TEST. -/
theorem exec_response {i : Instr} {s t : State} (h : exec i s = .next t) :
    ∃ st data, t.respWord = responseWord st i.opcode.byte data ∧
      ((st = .ok ∧ (data ≠ 0 → isReadBack i = true)) ∨
        (st = .outOfRange ∧ data = 0 ∧ ∃ v imm, i = .servoSet v imm) ∨
        (st = .busy ∧ data = 0 ∧ ∃ v, drivesServo v i = true)) := by
  cases i with
  | servoSet v imm =>
    simp only [exec, execServoSet] at h
    split_ifs at h <;> cases h
    · exact ⟨.outOfRange, 0, rfl, .inr (.inl ⟨rfl, rfl, v, imm, rfl⟩)⟩
    · exact ⟨.busy, 0, rfl, .inr (.inr ⟨rfl, rfl, v, decide_eq_true rfl⟩)⟩
    · exact ⟨.ok, 0, rfl, .inl ⟨rfl, fun hne => absurd rfl hne⟩⟩
  | servoTest v =>
    simp only [exec, execServoTest] at h
    split_ifs at h <;> cases h
    · exact ⟨.busy, 0, rfl, .inr (.inr ⟨rfl, rfl, v, decide_eq_true rfl⟩)⟩
    · exact ⟨.ok, 0, rfl, .inl ⟨rfl, fun hne => absurd rfl hne⟩⟩
  | nop | motorForward | motorBackward | motorBrake | motorNeutral | motorSetRampRate =>
    cases h
    exact ⟨.ok, 0, rfl, .inl ⟨rfl, fun hne => absurd rfl hne⟩⟩
  | _ =>
    cases h
    exact ⟨.ok, _, rfl, .inl ⟨rfl, fun _ => rfl⟩⟩

/-- A command turned away answers with the cause, the opcode as presented and no data (R320). -/
theorem reject_respWord (st : Status) (echo : Byte) (s : State) :
    (reject st echo s).respWord = responseWord st echo 0 := rfl

/-- A cycle that presents a word that is no command rejects it, after its autonomous operations. -/
theorem runCycle_rejected {inp : Inputs} {e : DecodeError} (hr : inp.rst = false)
    (hv : inp.cmdValid = true) (hd : decode inp.cmdWord = .error e) (s : State) :
    runCycle inp s = .next (setRespValid true
      (reject e.status (fieldsOf inp.cmdWord).op (autonomousPhase inp (beginCycle s)))) := by
  simp [runCycle, commandPhase, execute, hr, hv, hd]

/-- Settles O45: a command's response is one `exec` gives, a rejected word's has its cause. -/
theorem responseFormat : Obligations.ResponseFormat := by
  intro s t h hv hr
  rcases runCycle_cases (step_next h).2 with ⟨hr', -, -⟩ | ⟨-, hv', -, -⟩ |
    ⟨i, u, -, -, hp, hd, hu, rfl⟩ | ⟨e, -, -, hp, -, rfl⟩
  · simp [hr] at hr'
  · simp [hv] at hv'
  · have hecho : i.opcode.byte = (sampledInputs s).cmdWord.extractLsb' 24 8 :=
      (congrArg CommandFields.op (fieldsOf_of_decode hd)).symm
    obtain ⟨st, data, hw, hst⟩ := exec_response hu
    rw [setRespValid_respWord, hw, hp, responseStatus_responseWord, responseEcho_responseWord,
      responseData_responseWord]
    refine ⟨statusCode_le_five st, hecho, ?_⟩
    rcases hst with ⟨rfl, hdata⟩ | ⟨rfl, rfl, v, imm, rfl⟩ | ⟨rfl, rfl, v, hdrives⟩
    · exact ⟨fun hne => ⟨rfl, i, rfl, hdata hne⟩, by simp [statusCode]⟩
    · exact ⟨fun hne => absurd rfl hne, fun _ => ⟨v, imm, rfl⟩, by simp [statusCode],
        by simp [statusCode]⟩
    · exact ⟨fun hne => absurd rfl hne, by simp [statusCode], fun _ => ⟨v, i, rfl, hdrives⟩,
        by simp [statusCode]⟩
  · rw [setRespValid_respWord, reject_respWord, hp, responseStatus_responseWord,
      responseEcho_responseWord, responseData_responseWord]
    refine ⟨statusCode_le_five _, rfl, fun hne => absurd rfl hne, ?_⟩
    cases e <;> simp [DecodeError.status, statusCode]

/-- Settles O43: the response's fields are those of `reject`. -/
theorem rejectedWordOnlyResponds : Obligations.RejectedWordOnlyResponds := by
  intro inp s e hr hv hd
  refine ⟨_, runCycle_rejected hr hv hd s, (responseStatus_responseWord _ _ _).trans ?_,
    responseEcho_responseWord _ _ _, responseData_responseWord _ _ _⟩
  cases e <;> rfl

/-! ### Worked encodings and assembler lines (R115 to R117) -/

/-- A line that emits a command's encoding emits a word that decodes to the command. -/
theorem decode_of_assembled {line : String} {i : Instr} {w : Word}
    (hline : assembleLine line = some w) (hw : encode i = w) :
    assembleLine line = some w ∧ encode i = w ∧ decode w = .ok i :=
  ⟨hline, hw, hw ▸ decode_encode i⟩

/-- Settles O1: each line and each encoding is evaluated, and the decoder inverts the encoder. -/
theorem workedEncodings : Obligations.WorkedEncodings :=
  ⟨decode_of_assembled (by decide) (by decide), decode_of_assembled (by decide) (by decide),
    decode_of_assembled (by decide) (by decide), decode_of_assembled (by decide) (by decide),
    decode_of_assembled (by decide) (by decide), decode_of_assembled (by decide) (by decide)⟩

/-- Settles O2 by running the assembler on each line. -/
theorem assemblerLines : Obligations.AssemblerLines := by
  unfold Obligations.AssemblerLines
  decide

end Machine

end Sys2Proof
end

section
/-! SUPPORT. The H-bridge family (40_hbridge.md). `ApplySpeed` is one pin write and then one channel
write, with the pattern and the duty given by the speed's sign and magnitude; `ConvertSense` is a
natural number's division, saturated, in a 16-bit register. -/

namespace Sys2Proof.Machine

/-! ### ApplySpeed (R141 to R143, R147, R148) -/

/-- A pin write and then a channel write, as one record: the two events in that order (R148). -/
theorem pwmWrite_pinWrite (m : Motor) (c : Channel) (a b e : Bool) (d : Half) (s : State) :
    pwmWrite c d (pinWrite m a b e s) =
      { s with
        dirA := s.dirA.set m a
        dirB := s.dirB.set m b
        en := s.en.set m e
        pwmVal := s.pwmVal.set c d
        pwmUpd := s.pwmUpd.set c true
        trace := s.trace ++ [.pin m a b e, .pwm c d] } := by
  simp [pwmWrite, pinWrite]

/-- `ApplySpeed` of a speed in range: the pins by its sign, then the channel by its magnitude
(R147). -/
theorem applySpeed_of_mem {v : Int} (h1 : -100 ≤ v) (h2 : v ≤ 100) (m : Motor) (s : State) :
    applySpeed m v s = pwmWrite (motorChannel m) (BitVec.ofNat 16 v.natAbs)
      (pinWrite m (decide (0 < v)) (decide (v < 0)) (decide (v ≠ 0)) s) := by
  rcases lt_trichotomy v 0 with h | rfl | h
  · have hduty : -v = (v.natAbs : Int) := by omega
    rw [applySpeed_neg h h1, hduty, halfOfInt_natCast]
    simp [h, h.ne, h.not_gt]
  · exact applySpeed_zero
  · have hduty : v = (v.natAbs : Int) := by omega
    rw [applySpeed_pos h h2, ← halfOfInt_natCast, ← hduty]
    simp [h, h.ne', h.not_gt]

/-- Settles O22: `ApplySpeed` is a pin write and a channel write, which compose to the record. -/
theorem applySpeedResult : Obligations.ApplySpeedResult := fun m _ s h1 h2 =>
  (applySpeed_of_mem h1 h2 m s).trans (pwmWrite_pinWrite m _ _ _ _ _ s)

/-! ### ConvertSense (R150) -/

/-- The sense conversion is the natural numbers' floor division, saturated at 0xFFFF. -/
theorem toNat_convertSense (c : Config) (raw : Nat) :
    (convertSense c raw).toNat = min 65535 (raw * c.senseNum / c.senseDen) := by
  have hfloor : fdiv (raw * c.senseNum) c.senseDen = (raw * c.senseNum / c.senseDen : Nat) := by
    rw [fdiv, Int.fdiv_eq_ediv_of_nonneg _ (by omega), Int.natCast_div, Int.natCast_mul]
  rw [convertSense, hfloor]
  generalize raw * c.senseNum / c.senseDen = q
  have hfits := toNat_halfOfInt (v := min 0xFFFF (q : Int)) (by omega) (by omega)
  omega

/-- Settles O23: the corner cases are read off the saturated division. -/
theorem convertSenseSaturates : Obligations.ConvertSenseSaturates := by
  refine fun c raw _ => ⟨toNat_convertSense c raw, BitVec.eq_of_toNat_eq ?_, fun hn hd hraw => ?_⟩
  · simp [toNat_convertSense]
  · rw [toNat_convertSense, hn, hd, Nat.mul_one, Nat.div_one, min_eq_right hraw]

end Sys2Proof.Machine
end

section
/-! SUPPORT. The motor commands (41_motor_commands.md). Each command's result is put together from
the writes it makes: a speed command is a target write and, in direct mode, a drive of the motor; a
read-back is its response. A cycle that performs no speed command for a motor leaves what the motor
owns as the autonomous operations left it, which is why a target and a brake last (R190, R202). -/

namespace Sys2Proof.Machine

/-! ### The speed commands (R170, R171, R180, R181) -/

/-- In ramped mode a speed command writes the target only (R170, R180). -/
theorem speedCommand_ramped {s : State} (h : s.rampRate ≠ 0) (m : Motor) (v : Int) :
    speedCommand m v s = setSpeedTgt m (speedOfInt v) s := if_neg h

/-- In direct mode a speed command writes both speeds and drives the motor (R170, R180). -/
theorem speedCommand_direct {s : State} (h : s.rampRate = 0) (m : Motor) (v : Int) :
    speedCommand m v s =
      applySpeed m v (setSpeedCur m (speedOfInt v) (setSpeedTgt m (speedOfInt v) s)) := if_pos h

/-- A motor stopped and coasting, as one record (R141, R195). -/
theorem hbCoast_stopSpeeds (m : Motor) (s : State) :
    hbCoast m (stopSpeeds m s) =
      { s with
        speedTgt := s.speedTgt.set m 0
        speedCur := s.speedCur.set m 0
        dirA := s.dirA.set m false
        dirB := s.dirB.set m false
        en := s.en.set m false
        pwmVal := s.pwmVal.set (motorChannel m) 0
        pwmUpd := s.pwmUpd.set (motorChannel m) true
        trace := s.trace ++ [.pin m false false false, .pwm (motorChannel m) 0] } :=
  pwmWrite_pinWrite ..

/-- In direct mode a speed command of 0 stops the motor and lets it coast (R141, R147). -/
theorem speedCommand_direct_zero {s : State} (h : s.rampRate = 0) (m : Motor) :
    speedCommand m 0 s = hbCoast m (stopSpeeds m s) := if_pos h

/-- A natural number as a speed register's contents (R9). -/
theorem speedOfInt_natCast (n : Nat) : speedOfInt n = BitVec.ofNat 8 n := by
  simp [speedOfInt]

/-- A negated natural number as a speed register's contents (R9, R12). -/
theorem speedOfInt_neg_natCast (n : Nat) : speedOfInt (-n) = -BitVec.ofNat 8 n := by
  simp [speedOfInt, BitVec.ofInt_neg]

/-- A speed operand's magnitude is 0 for the operand 0 only (R171). -/
theorem min_toNat_eq_zero_iff (imm : Half) : min imm.toNat 100 = 0 ↔ imm = 0 := by
  have hzero : imm = 0 ↔ imm.toNat = 0 := BitVec.toNat_inj.symm
  rw [hzero]
  omega

/-- Settles O7: the target write in ramped mode; in direct mode the drive at 0, which is COAST, or
at 1..100. -/
theorem motorForwardResult : Obligations.MotorForwardResult := by
  refine fun m imm s => ⟨rfl, ?_⟩
  simp only [exec, execMotorForward, mag_zextImm]
  have hzero := min_toNat_eq_zero_iff imm
  split_ifs with hrate himm
  · rw [speedCommand_ramped hrate, speedOfInt_natCast]
    rfl
  · rw [hzero.2 himm, Nat.cast_zero, speedCommand_direct_zero (not_not.1 hrate),
      hbCoast_stopSpeeds]
    rfl
  · have hne := mt hzero.1 himm
    rw [speedCommand_direct (not_not.1 hrate), applySpeed_pos (by omega) (by omega),
      pwmWrite_pinWrite, halfOfInt_natCast, speedOfInt_natCast]
    rfl

/-- Settles O8: as MOTOR_FORWARD, with the negated magnitude. -/
theorem motorBackwardResult : Obligations.MotorBackwardResult := by
  refine fun m imm s => ⟨rfl, ?_⟩
  simp only [exec, execMotorBackward, mag_zextImm]
  have hzero := min_toNat_eq_zero_iff imm
  split_ifs with hrate himm
  · rw [speedCommand_ramped hrate, speedOfInt_neg_natCast]
    rfl
  · rw [hzero.2 himm, Nat.cast_zero, neg_zero, speedCommand_direct_zero (not_not.1 hrate),
      hbCoast_stopSpeeds]
    rfl
  · have hne := mt hzero.1 himm
    rw [speedCommand_direct (not_not.1 hrate), applySpeed_neg (by omega) (by omega),
      pwmWrite_pinWrite, neg_neg, halfOfInt_natCast, speedOfInt_neg_natCast]
    rfl

/-- In either mode the target after a speed command is the commanded speed (R170, R180). -/
theorem tgtSpeed_speedCommand {v : Int} (h0 : -100 ≤ v) (h1 : v ≤ 100) (m : Motor) (s : State) :
    tgtSpeed (speedCommand m v s) m = v := by
  have htgt : (speedCommand m v s).speedTgt = s.speedTgt.set m (speedOfInt v) := by
    unfold speedCommand
    split_ifs
    · simp
    · rfl
  rw [tgtSpeed, htgt, PerMotor.get_set, if_pos rfl]
  exact toInt_speedOfInt (by omega) (by omega)

/-- Settles O9: the target is the commanded speed, and the operand's magnitude is 0..100. -/
theorem speedOperandClamped : Obligations.SpeedOperandClamped := by
  intro m imm s
  have hmag : mag (zextImm imm) = min (imm.toNat : Int) 100 := by
    rw [mag_zextImm, Nat.cast_min, Nat.cast_ofNat]
  obtain ⟨h0, h1⟩ := mag_zextImm_mem imm
  have hfwd := tgtSpeed_speedCommand (v := mag (zextImm imm)) (by omega) h1 m s
  have hbwd := tgtSpeed_speedCommand (v := -mag (zextImm imm)) (by omega) (by omega) m s
  exact ⟨⟨_, rfl, responseStatus_responseWord _ _ _, hfwd.trans hmag, h0.trans_eq hfwd.symm,
      hfwd.trans_le h1⟩,
    ⟨_, rfl, responseStatus_responseWord _ _ _, hbwd.trans (congrArg _ hmag),
      (neg_le_neg h1).trans_eq hbwd.symm, hbwd.trans_le (neg_nonpos.2 h0)⟩⟩

/-! ### MOTOR_NEUTRAL and MOTOR_SET_RAMP_RATE (R195, R200, R201) -/

/-- Settles O11: both speeds 0 and the COAST pattern, in whatever mode. -/
theorem motorNeutralResult : Obligations.MotorNeutralResult := by
  refine fun m s => ⟨rfl, ?_⟩
  simp only [exec, execMotorNeutral, hbCoast_stopSpeeds]
  rfl

/-- Settles O12: the rate is the whole operand. -/
theorem motorSetRampRateResult : Obligations.MotorSetRampRateResult := by
  refine fun imm s => ⟨rfl, ?_⟩
  have hrate : halfOfInt (zextImm imm) = imm := by simp [halfOfInt, zextImm]
  simp only [exec, execMotorSetRampRate, hrate]
  rfl

/-! ### The read-back commands (R205 to R210) -/

/-- Settles O13: the response is the only write. -/
theorem motorGetRampRateResult : Obligations.MotorGetRampRateResult := ⟨rfl, fun _ => rfl⟩

/-- A speed read back has the speed's signed value (R206, R207). -/
theorem toInt_speedData (v : Speed) : (speedData v).toInt = v.toInt :=
  BitVec.toInt_signExtend_of_le (by omega)

/-- Settles O14: a data of the target's signed value is fixed by it. -/
theorem motorGetSpeedTargetResult : Obligations.MotorGetSpeedTargetResult := by
  intro m s
  have hdata : (speedData (s.speedTgt.get m)).toInt = tgtSpeed s m := toInt_speedData _
  refine ⟨rfl, _, rfl, hdata, fun h => ?_, fun h => ?_⟩
  · exact BitVec.eq_of_toInt_eq ((hdata.trans h).trans (by decide))
  · exact BitVec.eq_of_toInt_eq ((hdata.trans h).trans (by decide))

/-- Settles O15: the command runs on what the autonomous operations left. -/
theorem motorGetSpeedCurrentResult : Obligations.MotorGetSpeedCurrentResult := by
  refine ⟨fun m s => ⟨rfl, _, rfl, toInt_speedData _⟩, fun m inp s hp hs => ?_⟩
  refine ⟨_, runCycle_performed hp rfl, ?_⟩
  rw [autonomousPhase_strobe hs]
  exact (congrArg BitVec.toInt (responseData_responseWord _ _ _)).trans (toInt_speedData _)

/-- The filtered current read back is the natural number's rounded division (R208). -/
theorem currentData_eq (f : FiltWord) :
    currentData f = BitVec.ofNat 16 ((f.toNat + 128) / 256) := by
  rw [← halfOfInt_natCast, currentData, fdiv, intOfFilt, Int.fdiv_eq_ediv_of_nonneg _ (by omega)]
  rfl

/-- Settles O16: rounding half up a filter state of at most 0xFFFF00 gives at most 0xFFFF. -/
theorem motorGetCurrentResult : Obligations.MotorGetCurrentResult := by
  refine fun m s => ⟨rfl, ?_, fun hfilt => ?_⟩
  · rw [← currentData_eq]
    rfl
  · rw [BitVec.toNat_ofNat]
    exact Nat.mod_eq_of_lt (by omega)

/-- Settles O17, by the four combinations of the direction pins (R46). -/
theorem motorGetDriveModeResult : Obligations.MotorGetDriveModeResult := by
  refine fun m s => ⟨rfl, ?_⟩
  simp only [exec, execMotorGetDriveMode, driveModeData, driveMode]
  cases s.dirB.get m <;> cases s.dirA.get m <;> rfl

/-- Settles O21: each read-back command is its response with status OK and nothing else. -/
theorem readBackChangesNothing : Obligations.ReadBackChangesNothing := by
  intro i s h
  cases i with
  | motorGetRampRate | motorGetSpeedTarget | motorGetSpeedCurrent | motorGetCurrent
  | motorGetDriveMode | servoGetStatus =>
    exact ⟨_, rfl, responseStatus_responseWord _ _ _, responseEcho_responseWord _ _ _⟩
  | _ => cases h

/-! ### Cycles without a speed command for a motor (R190, R202) -/

/-- A cycle with no reset and no speed command for a motor leaves what the motor owns as the
autonomous operations left it. -/
theorem runCycle_motorRegs {inp : Inputs} {s t : State} {m : Motor} (h : runCycle inp s = .next t)
    (hr : inp.rst = false) (hno : ∀ i, performed inp = some i → setsTarget m i = false) :
    motorRegs m t = motorRegs m (autonomousPhase inp (beginCycle s)) := by
  rcases runCycle_cases h with ⟨hr', -, -⟩ | ⟨-, -, -, rfl⟩ | ⟨i, u, -, -, hp, -, hu, rfl⟩ |
    ⟨e, -, -, -, -, rfl⟩
  · simp [hr] at hr'
  · rfl
  · exact (exec_motorRegs (hno i hp) hu :)
  · rfl

/-- The autonomous operations leave the targets (R30). -/
theorem autonomousPhase_speedTgt (inp : Inputs) (s : State) :
    (autonomousPhase inp s).speedTgt = s.speedTgt := by
  unfold autonomousPhase strobePhase
  split_ifs <;> simp

/-- Settles O55: without a reset and a speed command, a cycle's targets are those the autonomous
operations left, and these leave the targets. -/
theorem targetPersists : Obligations.TargetPersists := by
  intro s t m h hne
  by_contra hcon
  obtain ⟨hr, hno⟩ := not_or.1 hcon
  refine hne ?_
  have hregs := runCycle_motorRegs (m := m) (step_next h).2 (by simpa using hr)
    fun i hp => by simpa using fun hi => hno ⟨i, hp, hi⟩
  calc t.speedTgt.get m
      = (autonomousPhase (sampledInputs s) (beginCycle (afterSampling s))).speedTgt.get m :=
        congrArg Prod.fst hregs
    _ = s.speedTgt.get m := by
        rw [autonomousPhase_speedTgt, beginCycle_speedTgt, afterSampling_eq]

/-! ### MOTOR_BRAKE (R190) -/

/-- Motor `m` brakes with both speeds 0, and its events of the cycle so far are `es`. -/
def BrakesAtRest (m : Motor) (es : List Event) (s : State) : Prop :=
  Brakes s m ∧ curSpeed s m = 0 ∧ tgtSpeed s m = 0 ∧ s.trace.filter (eventOfMotor m) = es

/-- Braking at rest is a matter of what the motor owns. -/
theorem BrakesAtRest.of_motorRegs {m : Motor} {es : List Event} {s t : State}
    (hs : BrakesAtRest m es s) (h : motorRegs m t = motorRegs m s) : BrakesAtRest m es t := by
  simp only [motorRegs, Prod.mk.injEq] at h
  simpa only [BrakesAtRest, Brakes, curSpeed, tgtSpeed, h] using hs

/-- A tick keeps a motor braking at rest: it has converged, so it is sampled only (R228). -/
theorem BrakesAtRest.after_rampTick {m : Motor} {es : List Event} {s : State}
    (hs : BrakesAtRest m es s) (x : PerMotor Half) : BrakesAtRest m es (rampTick x s) := by
  have hsampled : BrakesAtRest m es (sampleMotor x m s) := hs
  refine hsampled.of_motorRegs ((rampTick_regs x m s).trans ?_)
  obtain ⟨-, hcur, htgt, -⟩ := hsampled
  rcases convergeMotor_cases m (sampleMotor x m s) with ⟨hlt, -⟩ | ⟨hlt, -⟩ | ⟨-, e⟩
  · omega
  · omega
  · rw [rampMotor, e]

/-- The autonomous operations keep a motor braking at rest, with a tick, with a strobe that is only
counted, in direct mode and without a strobe. -/
theorem BrakesAtRest.after_autonomousPhase {m : Motor} {es : List Event} {s : State}
    (hs : BrakesAtRest m es s) (inp : Inputs) : BrakesAtRest m es (autonomousPhase inp s) := by
  unfold autonomousPhase
  split_ifs
  · refine BrakesAtRest.of_motorRegs ?_ (strobePhase_motorRegs m inp.isense s)
    rcases timebaseStep_cases inp.isense s with ⟨-, e⟩ | ⟨-, -, e⟩ | ⟨-, -, e⟩ <;> rw [e]
    · exact hs
    · exact BrakesAtRest.after_rampTick (s := setMsCount 0 s) hs _
    · exact hs
  · exact hs

/-- A step with no reset and no speed command for a motor braking at rest leaves it so, with no
event of the motor in the cycle's trace. -/
theorem step_brakesAtRest {m : Motor} {es : List Event} {s t : State} (hs : BrakesAtRest m es s)
    (h : step s = .next t) (hr : (sampledInputs s).rst = false)
    (hno : ∀ i, performed (sampledInputs s) = some i → setsTarget m i = false) :
    BrakesAtRest m [] t := by
  obtain ⟨hbrakes, hcur, htgt, -⟩ := hs
  have hbegin : BrakesAtRest m [] (beginCycle (afterSampling s)) := by
    rw [afterSampling_eq]
    exact ⟨hbrakes, hcur, htgt, rfl⟩
  exact (hbegin.after_autonomousPhase _).of_motorRegs (runCycle_motorRegs (step_next h).2 hr hno)

/-- MOTOR_BRAKE's result, as one record (R144, R190). -/
theorem exec_motorBrake (m : Motor) (s : State) :
    exec (.motorBrake m) s = .next
      { s with
        speedTgt := s.speedTgt.set m 0
        speedCur := s.speedCur.set m 0
        dirA := s.dirA.set m true
        dirB := s.dirB.set m true
        en := s.en.set m true
        pwmVal := s.pwmVal.set (motorChannel m) 0
        pwmUpd := s.pwmUpd.set (motorChannel m) true
        trace := s.trace ++ [.pin m true true true, .pwm (motorChannel m) 0]
        respWord := 0x00030000 } := by
  simp only [exec, execMotorBrake, hbBrakeSupply, pwmWrite_pinWrite]
  rfl

/-- MOTOR_BRAKE leaves its motor braking at rest (R190). -/
theorem exec_motorBrake_brakesAtRest {m : Motor} {s t : State}
    (h : exec (.motorBrake m) s = .next t) :
    BrakesAtRest m (t.trace.filter (eventOfMotor m)) t := by
  cases h
  exact ⟨hbBrakeSupply_brakes m _, by simp [curSpeed, respond, hbBrakeSupply, stopSpeeds],
    by simp [tgtSpeed, respond, hbBrakeSupply, stopSpeeds], rfl⟩

/-- Settles O10: the command leaves the motor braking at rest, and a tick and every step without a
command for the motor keep it so. -/
theorem motorBrakeResult : Obligations.MotorBrakeResult := by
  refine ⟨fun m s => ?_, fun s t m hbrakes hcur htgt h hr hno => ?_⟩
  · have hexec := exec_motorBrake m s
    have hrest := exec_motorBrake_brakesAtRest hexec
    have htick := fun x => hrest.after_rampTick x
    obtain ⟨hbrakes, hcur, htgt, -⟩ := hrest
    refine ⟨rfl, _, hexec, rfl, ?_, hbrakes, hcur, htgt, fun x => ?_⟩
    · rw [exec_motorBrake]
      cases m <;> rfl
    · obtain ⟨hbrakes', -, -, htrace⟩ := htick x
      exact ⟨hbrakes', htrace⟩
  · exact step_brakesAtRest ⟨hbrakes, hcur, htgt, rfl⟩ h hr hno

end Sys2Proof.Machine
end

section
/-! SUPPORT. The ramp family (42_ramp_tick.md), first part: the current filter. A step moves the
filter by a rounded share of its residual `x * 256 - f`, so it lands between the state and the
input (R227); fed one input, the residual shrinks until the share rounds to 0 (R232). -/

namespace Sys2Proof.Machine

/-- A number that fits comes back from a filter register (R12). -/
theorem toNat_filtOfInt {v : Int} (h0 : 0 ≤ v) (h1 : v ≤ 0xFFFFFF) :
    ((filtOfInt v).toNat : Int) = v := by
  obtain ⟨n, rfl⟩ := Int.eq_ofNat_of_zero_le h0
  simp only [filtOfInt, BitVec.ofInt_natCast, BitVec.toNat_ofNat]
  omega

/-- `FilterStep` adds the residual's share, rounded (R226). -/
theorem filterValue_eq (a : Nat) (f x : Int) :
    filterValue a f x = f + ((x * 256 - f) * a + 127) / 256 := by
  rw [filterValue, fdiv, Int.fdiv_eq_ediv_of_nonneg _ (by omega)]

/-- `FilterStep` does not fall below both its state and its input (R227). -/
theorem min_le_filterValue {a : Nat} (h : a ≤ 256) (f x : Int) :
    min f (x * 256) ≤ filterValue a f x := by
  have hshare : min 0 (x * 256 - f) ≤ ((x * 256 - f) * a + 127) / 256 := by
    rw [Int.le_ediv_iff_mul_le (by omega)]
    rcases le_total 0 (x * 256 - f) with hd | hd
    · rw [min_eq_left hd]; positivity
    · rw [min_eq_right hd]; nlinarith
  rw [filterValue_eq]
  omega

/-- The register's filter step is the integers' and lies between the state and the input (R227). -/
theorem toNat_filterStep {c : Config} (h : c.AlphaLegal) (f : FiltWord) (x : Half) :
    ((filterStep c f x).toNat : Int) = filterValue c.alphaQ8 f.toNat x.toNat ∧
      min f.toNat (x.toNat * 256) ≤ (filterStep c f x).toNat ∧
      (filterStep c f x).toNat ≤ max f.toNat (x.toNat * 256) := by
  have hf := f.isLt
  have hx := x.isLt
  have hlo := min_le_filterValue h.2 f.toNat x.toNat
  have hhi := (filterValue_mem h.1 h.2 (f := f.toNat) (x := x.toNat)
    (M := max (f.toNat : Int) (x.toNat * 256)) (by omega) (by omega) (by omega) (by omega)).2
  have hfits : ((filterStep c f x).toNat : Int) = filterValue c.alphaQ8 f.toNat x.toNat :=
    toNat_filtOfInt (v := filterValue c.alphaQ8 f.toNat x.toNat) (by omega) (by omega)
  exact ⟨hfits, by omega, by omega⟩

/-- Settles O24: both the state and the input times 256 are at most 0xFFFF00. -/
theorem filterStaysBetween : Obligations.FilterStaysBetween := by
  intro c f x hc hf
  have hx := x.isLt
  obtain ⟨-, hlo, hhi⟩ := toNat_filterStep hc f x
  exact ⟨hlo, hhi, by omega⟩

/-! ### A constant input (R232) -/

/-- How far a filter state is from what input `x` stands for (R226). -/
def residual (x : Half) (f : FiltWord) : Int := (x.toNat : Int) * 256 - f.toNat

/-- A step that moves the filter brings it nearer to the input (R232). -/
theorem filterStep_residual_lt {c : Config} (h : c.AlphaLegal) {f : FiltWord} {x : Half}
    (hmoves : filterStep c f x ≠ f) :
    (residual x (filterStep c f x)).natAbs < (residual x f).natAbs := by
  obtain ⟨-, hlo, hhi⟩ := toNat_filterStep h f x
  have hne : (filterStep c f x).toNat ≠ f.toNat := mt BitVec.eq_of_toNat_eq hmoves
  unfold residual
  omega

/-- Where the filter does not move, its residual is -127..128 (R232). -/
theorem residual_mem_of_fixed {c : Config} (h : c.AlphaLegal) {f : FiltWord} {x : Half}
    (hfixed : filterStep c f x = f) : -127 ≤ residual x f ∧ residual x f ≤ 128 := by
  obtain ⟨hvalue, -, -⟩ := toNat_filterStep h f x
  rw [hfixed, filterValue_eq] at hvalue
  change _ = _ + (residual x f * c.alphaQ8 + 127) / 256 at hvalue
  have hshare : 0 ≤ residual x f * c.alphaQ8 + 127 ∧ residual x f * c.alphaQ8 + 127 < 256 := by
    omega
  have ha : (1 : Int) ≤ c.alphaQ8 := by exact_mod_cast h.1
  constructor <;> by_contra hout <;> nlinarith

/-- Fed one input, the filter comes to a state it does not leave (R232): its residual cannot shrink
for ever. -/
theorem filterStep_reaches_fixed {c : Config} (h : c.AlphaLegal) (x : Half) (f : FiltWord) :
    ∃ n₀ : Nat, Function.IsFixedPt (fun y => filterStep c y x)
      ((fun y => filterStep c y x)^[n₀] f) := by
  induction hd : (residual x f).natAbs using Nat.strong_induction_on generalizing f with
  | h d ih =>
    by_cases hmoves : filterStep c f x = f
    · exact ⟨0, hmoves⟩
    · obtain ⟨n₀, hn₀⟩ := ih _ (hd ▸ filterStep_residual_lt h hmoves) _ rfl
      exact ⟨n₀ + 1, hn₀⟩

/-- MOTOR_GET_CURRENT reads a filter within that residual as the input (R208, R232). -/
theorem currentData_of_residual {f : FiltWord} {x : Half} (h0 : -127 ≤ residual x f)
    (h1 : residual x f ≤ 128) : currentData f = x := by
  have hround : (f.toNat + 128) / 256 = x.toNat := by
    unfold residual at h0 h1
    omega
  rw [currentData_eq, hround, BitVec.ofNat_toNat, BitVec.setWidth_eq]

/-- Settles O25: from the state it does not leave, further steps change nothing. -/
theorem filterConvergesToInput : Obligations.FilterConvergesToInput := by
  intro c f x hc _
  obtain ⟨n₀, hfixed⟩ := filterStep_reaches_fixed hc x f
  refine ⟨n₀, fun n hn => ?_⟩
  have hstays : (fun y => filterStep c y x)^[n] f = (fun y => filterStep c y x)^[n₀] f := by
    rw [← Nat.sub_add_cancel hn, Function.iterate_add_apply]
    exact hfixed.iterate _
  dsimp only
  rw [hstays]
  obtain ⟨h0, h1⟩ := residual_mem_of_fixed hc hfixed
  exact ⟨hfixed, h0, h1, currentData_of_residual h0 h1⟩

end Sys2Proof.Machine
end

section
/-! SUPPORT. The ramp family, second part: the timebase, the ramp tick and runs of ticks. A tick's
effect on a motor is told by `rampSpeed`, the speed the tick leaves: a motor that has not converged
is driven at it, one that has is sampled only. -/

namespace Sys2Proof.Machine

/-! ### The timebase (R220, R221) -/

/-- In direct mode the timebase restarts the phase (R221). -/
theorem timebaseStep_direct {s : State} (h : s.rampRate = 0) (x : PerMotor Half) :
    timebaseStep x s = setMsCount 0 s := if_pos h

/-- The strobe that reaches the rate ticks, with the phase restarted (R220). -/
theorem timebaseStep_tick {s : State} (h : s.rampRate ≠ 0)
    (hdue : s.rampRate.toNat ≤ s.msCount.toNat + 1) (x : PerMotor Half) :
    timebaseStep x s = rampTick x (setMsCount 0 s) := by
  rcases timebaseStep_cases x s with ⟨h0, -⟩ | ⟨-, -, e⟩ | ⟨-, hlt, -⟩
  · exact absurd h0 h
  · exact e
  · omega

/-- Any other strobe is counted (R220). -/
theorem timebaseStep_count {s : State} (h : s.msCount.toNat + 1 < s.rampRate.toNat)
    (x : PerMotor Half) :
    timebaseStep x s = setMsCount (BitVec.ofNat 16 (s.msCount.toNat + 1)) s := by
  rcases timebaseStep_cases x s with ⟨h0, -⟩ | ⟨-, hdue, -⟩ | ⟨-, -, e⟩
  · simp [h0] at h
  · omega
  · rw [e, BitVec.ofNat_add, BitVec.ofNat_toNat, BitVec.setWidth_eq]
    rfl

/-- Settles O26: direct mode, the strobe that ticks, any other strobe. -/
theorem timebaseStepResult : Obligations.TimebaseStepResult := fun x _ =>
  ⟨fun h => timebaseStep_direct h x, fun h hdue => timebaseStep_tick h hdue x,
    fun h => timebaseStep_count h x⟩

/-! ### One motor's part of a tick (R224, R225) -/

/-- The speed a tick leaves for motor `m`: one step toward the target (R224). -/
def rampSpeed (s : State) (m : Motor) : Int :=
  if curSpeed s m < tgtSpeed s m then curSpeed s m + 1
  else if tgtSpeed s m < curSpeed s m then curSpeed s m - 1 else curSpeed s m

/-- A step toward the target does not pass it (R228). -/
theorem rampSpeed_mem (s : State) (m : Motor) :
    min (curSpeed s m) (tgtSpeed s m) ≤ rampSpeed s m ∧
      rampSpeed s m ≤ max (curSpeed s m) (tgtSpeed s m) := by
  unfold rampSpeed
  split_ifs <;> omega

/-- From speeds in range the step stays in range (R33, R228). -/
theorem rampSpeed_range {s : State} (h : SpeedsInRange s) (m : Motor) :
    -100 ≤ rampSpeed s m ∧ rampSpeed s m ≤ 100 := by
  have hs := h m
  have hmem := rampSpeed_mem s m
  omega

/-- A motor's part of a tick: a motor short of its target is driven one step nearer, a converged one
is sampled only (R224, R228). -/
theorem rampMotor_cases (x : PerMotor Half) (m : Motor) (s : State) :
    (curSpeed s m ≠ tgtSpeed s m ∧ rampMotor x m s =
      applySpeed m (rampSpeed s m)
        (setSpeedCur m (speedOfInt (rampSpeed s m)) (sampleMotor x m s))) ∨
    (curSpeed s m = tgtSpeed s m ∧ rampMotor x m s = sampleMotor x m s) := by
  have hcur : curSpeed (sampleMotor x m s) m = curSpeed s m := rfl
  have htgt : tgtSpeed (sampleMotor x m s) m = tgtSpeed s m := rfl
  have hcases := convergeMotor_cases m (sampleMotor x m s)
  rw [hcur, htgt] at hcases
  unfold rampMotor
  rcases hcases with ⟨hlt, e⟩ | ⟨hlt, e⟩ | ⟨heq, e⟩
  · have hnext : rampSpeed s m = curSpeed s m + 1 := if_pos hlt
    exact .inl ⟨hlt.ne, by rw [e, hnext]⟩
  · have hnext : rampSpeed s m = curSpeed s m - 1 := by
      rw [rampSpeed, if_neg (by omega), if_pos hlt]
    exact .inl ⟨hlt.ne', by rw [e, hnext]⟩
  · exact .inr ⟨heq, e⟩

/-- The events of `ApplySpeed` for a speed in range (R147, R148). -/
theorem applySpeed_trace {v : Int} (h : -100 ≤ v ∧ v ≤ 100) (m : Motor) (s : State) :
    (applySpeed m v s).trace = s.trace ++ applyEvents m v := by
  rcases lt_trichotomy v 0 with hv | rfl | hv
  · rw [applySpeed_neg hv h.1, applyEvents, if_neg (by omega), if_pos hv]
    simp
  · rw [applySpeed_zero]
    simp [applyEvents]
  · rw [applySpeed_pos hv h.2, applyEvents, if_pos hv]
    simp

/-- A motor's part of a tick appends the drive's events, or none where the motor has converged
(R224, R228). -/
theorem rampMotor_trace {m : Motor} {s : State} (h : -100 ≤ rampSpeed s m ∧ rampSpeed s m ≤ 100)
    (x : PerMotor Half) :
    (rampMotor x m s).trace = s.trace ++
      (if curSpeed s m = tgtSpeed s m then [] else applyEvents m (rampSpeed s m)) := by
  rcases rampMotor_cases x m s with ⟨hne, e⟩ | ⟨heq, e⟩ <;> rw [e]
  · rw [if_neg hne, applySpeed_trace h]
    rfl
  · rw [if_pos heq, List.append_nil]
    rfl

/-! ### The ramp tick (R223, R228) -/

/-- A tick leaves the target (R228). -/
@[simp] theorem tgtSpeed_rampTick (x : PerMotor Half) (s : State) (m : Motor) :
    tgtSpeed (rampTick x s) m = tgtSpeed s m := by
  simp [tgtSpeed]

/-- A tick samples and filters every motor's current (R224, R225). -/
theorem rampTick_sample (x : PerMotor Half) (s : State) (m : Motor) :
    (rampTick x s).currentRaw.get m = convertSense s.cfg (readSense s.cfg x m) ∧
      (rampTick x s).filt.get m =
        filterStep s.cfg (s.filt.get m) (convertSense s.cfg (readSense s.cfg x m)) := by
  have hregs := rampTick_regs x m s
  simp only [motorRegs, Prod.mk.injEq] at hregs
  obtain ⟨-, -, hraw, hfilt, -⟩ := hregs
  rw [hraw, hfilt]
  simp [rampMotor, sampleMotor]

/-- A tick leaves the current speed one step nearer to the target (R224, R228). -/
theorem curSpeed_rampTick (x : PerMotor Half) (s : State) (m : Motor) :
    curSpeed (rampTick x s) m = rampSpeed s m := by
  have hregs := rampTick_regs x m s
  simp only [motorRegs, Prod.mk.injEq] at hregs
  obtain ⟨-, hcur, -⟩ := hregs
  rw [curSpeed, hcur]
  rcases rampMotor_cases x m s with ⟨-, e⟩ | ⟨heq, e⟩ <;> rw [e]
  · have hmem := rampSpeed_mem s m
    have hc := speed_bounds (s.speedCur.get m)
    have ht := speed_bounds (s.speedTgt.get m)
    unfold curSpeed tgtSpeed at hmem
    simpa using toInt_speedOfInt (v := rampSpeed s m) (by omega) (by omega)
  · rw [rampSpeed, if_neg (by omega), if_neg (by omega)]
    rfl

/-- A tick drives a motor short of its target at its new speed (R147, R224). -/
theorem rampTick_drives {s : State} {m : Motor} (hne : curSpeed s m ≠ tgtSpeed s m)
    (h : -100 ≤ rampSpeed s m ∧ rampSpeed s m ≤ 100) (x : PerMotor Half) :
    (rampTick x s).dirA.get m = decide (0 < rampSpeed s m) ∧
      (rampTick x s).dirB.get m = decide (rampSpeed s m < 0) ∧
      (rampTick x s).en.get m = decide (rampSpeed s m ≠ 0) ∧
      (rampTick x s).pwmVal.get (motorChannel m) = BitVec.ofNat 16 (rampSpeed s m).natAbs ∧
      (rampTick x s).pwmUpd.get (motorChannel m) = true := by
  have hregs := rampTick_regs x m s
  rcases rampMotor_cases x m s with ⟨-, e⟩ | ⟨heq, -⟩
  · rw [e, applySpeed_of_mem h.1 h.2] at hregs
    simp only [motorRegs, Prod.mk.injEq] at hregs
    obtain ⟨-, -, -, -, ha, hb, he, hp, hu, -⟩ := hregs
    rw [ha, hb, he, hp, hu]
    simp
  · exact absurd heq hne

/-- A tick writes nothing of a converged motor beyond the sample (R228). -/
theorem rampTick_converged {s : State} {m : Motor} (heq : curSpeed s m = tgtSpeed s m)
    (x : PerMotor Half) : motorRegs m (rampTick x s) = motorRegs m (sampleMotor x m s) := by
  rcases rampMotor_cases x m s with ⟨hne, -⟩ | ⟨-, e⟩
  · exact absurd heq hne
  · rw [rampTick_regs, e]

/-- A tick's events: the left motor's, then the right motor's, whose part does not see the left
one's (R223, R234). -/
theorem rampTick_trace {s : State} (h : SpeedsInRange s) (x : PerMotor Half) :
    (rampTick x s).trace = s.trace ++
      (if curSpeed s .left = tgtSpeed s .left then [] else applyEvents .left (rampSpeed s .left)) ++
      (if curSpeed s .right = tgtSpeed s .right then []
        else applyEvents .right (rampSpeed s .right)) := by
  have hother := rampMotor_other (m := .left) (n := .right) (by decide) x s
  simp only [motorRegs, Prod.mk.injEq] at hother
  obtain ⟨-, hspeed, -⟩ := hother
  have hcur : curSpeed (rampMotor x .left s) .right = curSpeed s .right := by
    rw [curSpeed, hspeed, curSpeed]
  have htgt : tgtSpeed (rampMotor x .left s) .right = tgtSpeed s .right := by simp [tgtSpeed]
  have hnext : rampSpeed (rampMotor x .left s) .right = rampSpeed s .right := by
    rw [rampSpeed, hcur, htgt, rampSpeed]
  rw [rampTick, rampMotor_trace (by rw [hnext]; exact rampSpeed_range h _),
    rampMotor_trace (rampSpeed_range h _), hcur, htgt, hnext]

/-- A tick leaves every servo's registers (R273). -/
theorem rampTick_servoRegs (v : Servo) (x : PerMotor Half) (s : State) :
    servoRegs v (rampTick x s) = servoRegs v s := by
  rw [rampTick, rampMotor_servoRegs, rampMotor_servoRegs]

/-- Settles O27: the sample, the step, the drive or its absence, the events and the frame. -/
theorem rampTickResult : Obligations.RampTickResult := by
  intro x s hs
  refine ⟨fun m => ?_, ?_, by simp, by simp, by simp, by simp, by simp, by simp, fun v => ?_⟩
  · obtain ⟨hraw, hfilt⟩ := rampTick_sample x s m
    refine ⟨hraw, hfilt, curSpeed_rampTick x s m, fun hne => ?_, fun heq => ?_⟩
    · have hrange := rampSpeed_range hs m
      obtain ⟨ha, hb, he, hp, hu⟩ := rampTick_drives hne hrange x
      rw [curSpeed_rampTick]
      refine ⟨ha, hb, he, ?_, hu⟩
      rw [hp, BitVec.toNat_ofNat]
      exact Nat.mod_eq_of_lt (by omega)
    · have hregs := rampTick_converged heq x
      simp only [motorRegs, Prod.mk.injEq] at hregs
      obtain ⟨-, -, -, -, ha, hb, he, hp, hu, -⟩ := hregs
      exact ⟨ha, hb, he, hp, hu⟩
  · rw [curSpeed_rampTick, curSpeed_rampTick]
    exact rampTick_trace hs x
  · have hregs := rampTick_servoRegs v x s
    simpa only [servoRegs, Prod.mk.injEq] using hregs

/-- Settles O28, by where the current speed stands to the target. -/
theorem tickMovesByOneTowardTarget : Obligations.TickMovesByOneTowardTarget := by
  intro x s m hs
  dsimp only
  rw [curSpeed_rampTick, tgtSpeed_rampTick]
  refine ⟨fun hlt => ?_, fun hlt => ?_, fun heq => ?_, rfl, rampSpeed_range hs m⟩
  · rw [rampSpeed, if_pos hlt]
    omega
  · rw [rampSpeed, if_neg (by omega), if_pos hlt]
    omega
  · have hregs := rampTick_converged heq x
    simp only [motorRegs, Prod.mk.injEq] at hregs
    obtain ⟨-, hcur, -, -, ha, hb, he, hp, hu, htrace⟩ := hregs
    exact ⟨hcur, ha, hb, he, hp, hu, htrace⟩

/-! ### Runs of ticks (R229, R230) -/

/-- A run of ticks leaves the target (R229). -/
theorem tgtSpeed_rampTicks (xs : List (PerMotor Half)) (s : State) (m : Motor) :
    tgtSpeed (rampTicks xs s) m = tgtSpeed s m := by
  induction xs generalizing s with
  | nil => rfl
  | cons x xs ih => exact (ih _).trans (tgtSpeed_rampTick x s m)

/-- A run of `n` ticks brings the current speed `n` steps along, and not past the target (R229). -/
theorem curSpeed_rampTicks (xs : List (PerMotor Half)) (s : State) (m : Motor) :
    curSpeed (rampTicks xs s) m =
      (if curSpeed s m ≤ tgtSpeed s m then min (curSpeed s m + xs.length) (tgtSpeed s m)
      else max (curSpeed s m - xs.length) (tgtSpeed s m)) := by
  induction xs generalizing s with
  | nil =>
    simp only [rampTicks, List.length_nil]
    split_ifs <;> omega
  | cons x xs ih =>
    rw [rampTicks, ih, curSpeed_rampTick, tgtSpeed_rampTick, List.length_cons, rampSpeed]
    split_ifs <;> omega

/-- Settles O29: the number of steps along, compared with the distance. -/
theorem rampConvergesExactly : Obligations.RampConvergesExactly := by
  intro xs s m
  have hcur := curSpeed_rampTicks xs s m
  refine ⟨tgtSpeed_rampTicks xs s m, hcur, ?_⟩
  rw [hcur]
  split_ifs <;> omega

/-- A run's last tick acts on what the ticks before it left. -/
theorem rampTicks_concat (xs : List (PerMotor Half)) (x : PerMotor Half) (s : State) :
    rampTicks (xs ++ [x]) s = rampTick x (rampTicks xs s) := by
  induction xs generalizing s with
  | nil => rfl
  | cons y ys ih => exact ih _

/-- Where the target lies on the other side of 0, as many ticks as the speed's magnitude bring it to
0, the last of them with COAST (R230). -/
theorem rampTicks_coasts {xs : List (PerMotor Half)} {s : State} {m : Motor}
    (hlen : xs.length = (curSpeed s m).natAbs)
    (hsign : curSpeed s m < 0 ∧ 0 < tgtSpeed s m ∨ 0 < curSpeed s m ∧ tgtSpeed s m < 0) :
    curSpeed (rampTicks xs s) m = 0 ∧ Coasts (rampTicks xs s) m := by
  rcases List.eq_nil_or_concat' xs with rfl | ⟨init, last, rfl⟩
  · simp only [List.length_nil] at hlen
    omega
  · rw [List.length_append, List.length_singleton] at hlen
    have hcur := curSpeed_rampTicks init s m
    have htgt := tgtSpeed_rampTicks init s m
    have hnext : rampSpeed (rampTicks init s) m = 0 := by
      rw [rampSpeed, htgt, hcur]
      split_ifs <;> omega
    have hne : curSpeed (rampTicks init s) m ≠ tgtSpeed (rampTicks init s) m := by
      rw [hcur, htgt]
      split_ifs <;> omega
    obtain ⟨ha, hb, he, hp, -⟩ := rampTick_drives hne (by omega) last
    rw [rampTicks_concat, curSpeed_rampTick, Coasts, ha, hb, he, hp, hnext]
    decide

/-- Settles O30: from 0 the next tick takes one step toward the target, with the drive of its new
direction. -/
theorem reversalPassesThroughCoast : Obligations.ReversalPassesThroughCoast := by
  intro xs last s m hlen
  have htgt := tgtSpeed_rampTicks xs s m
  refine ⟨fun hc ht => ?_, fun hc ht => ?_⟩
  · obtain ⟨hzero, hcoast⟩ := rampTicks_coasts hlen (.inl ⟨hc, ht⟩)
    have hnext : rampSpeed (rampTicks xs s) m = 1 := by
      rw [rampSpeed, hzero, htgt, if_pos ht]
      rfl
    obtain ⟨ha, hb, he, hp, -⟩ :=
      rampTick_drives (s := rampTicks xs s) (m := m) (by omega) (by omega) last
    refine ⟨hzero, hcoast, (curSpeed_rampTick ..).trans hnext, ?_⟩
    rw [DrivesCW, ha, hb, he, hp, hnext]
    decide
  · obtain ⟨hzero, hcoast⟩ := rampTicks_coasts hlen (.inr ⟨hc, ht⟩)
    have hnext : rampSpeed (rampTicks xs s) m = -1 := by
      rw [rampSpeed, hzero, htgt, if_neg (by omega), if_pos ht]
      rfl
    obtain ⟨ha, hb, he, hp, -⟩ :=
      rampTick_drives (s := rampTicks xs s) (m := m) (by omega) (by omega) last
    refine ⟨hzero, hcoast, (curSpeed_rampTick ..).trans hnext, ?_⟩
    rw [DrivesCCW, ha, hb, he, hp, hnext]
    decide

end Sys2Proof.Machine
end

section
/-! SUPPORT. The ramp family, third part: the ramp in a cycle and in a schedule of cycles. Without a
reset a cycle is its autonomous operations, at most one command, and the response. -/

namespace Sys2Proof.Machine

/-! ### A cycle without reset -/

/-- A cycle without reset: what the autonomous operations left, or what its command then left, with
the response (R60). -/
theorem runCycle_cases_of_no_reset {inp : Inputs} {s t : State} (h : runCycle inp s = .next t)
    (hr : inp.rst = false) :
    ∃ u b w, t = setRespValid b (setRespWord w u) ∧
      (u = autonomousPhase inp (beginCycle s) ∨
        ∃ i, performed inp = some i ∧ exec i (autonomousPhase inp (beginCycle s)) = .next u) := by
  rcases runCycle_cases h with ⟨hr', -, -⟩ | ⟨-, -, -, rfl⟩ | ⟨i, u, -, -, hp, -, hu, rfl⟩ |
    ⟨e, -, -, -, -, rfl⟩
  · simp [hr] at hr'
  · exact ⟨_, false, _, rfl, .inl rfl⟩
  · exact ⟨u, true, u.respWord, rfl, .inr ⟨i, hp, hu⟩⟩
  · exact ⟨_, true, _, rfl, .inl rfl⟩

/-- Every cycle answers with a next state (R320, R324). -/
theorem runCycle_answers (inp : Inputs) (s : State) : ∃ t, runCycle inp s = .next t := by
  unfold runCycle commandPhase execute
  cases inp.rst with
  | true => exact ⟨_, rfl⟩
  | false =>
    cases inp.cmdValid with
    | false => exact ⟨_, rfl⟩
    | true =>
      cases decode inp.cmdWord with
      | error e => exact ⟨_, rfl⟩
      | ok i =>
        obtain ⟨u, hu⟩ := exec_answers i (autonomousPhase inp (beginCycle s))
        simp only [hu]
        exact ⟨_, rfl⟩

/-! ### Direct mode (R221, R372) -/

/-- A command takes no current sample (R225). -/
theorem exec_telemetry_eq {i : Instr} {s t : State} (he : exec i s = .next t) :
    t.currentRaw = s.currentRaw ∧ t.filt = s.filt := by
  cases i with
  | servoSet w imm =>
    simp only [exec, execServoSet] at he
    split_ifs at he <;> cases he <;> simp [reject, respond]
  | servoTest w =>
    simp only [exec, execServoTest] at he
    split_ifs at he <;> cases he <;> simp [reject, respond]
  | motorForward m imm => cases he; simp only [respond, speedCommand]; split_ifs <;> simp
  | motorBackward m imm => cases he; simp only [respond, speedCommand]; split_ifs <;> simp
  | motorBrake m => cases he; simp [respond, hbBrakeSupply, stopSpeeds]
  | motorNeutral m => cases he; simp [respond, hbCoast, stopSpeeds]
  | _ => cases he; exact ⟨rfl, rfl⟩

/-- A command restarts the tick phase or leaves it (R37, R201). -/
theorem exec_msCount {i : Instr} {s t : State} (he : exec i s = .next t) :
    t.msCount = 0 ∨ t.msCount = s.msCount := by
  cases hi : setsRampRate i with
  | false => exact .inr (exec_timebase hi he).2
  | true =>
    obtain ⟨r, rfl, -⟩ := exec_setsRampRate hi he
    cases he
    exact .inl rfl

/-- In direct mode the autonomous operations take no sample, and a strobe restarts the phase
(R221). -/
theorem autonomousPhase_direct {s : State} (h : s.rampRate = 0) (inp : Inputs) :
    (autonomousPhase inp s).currentRaw = s.currentRaw ∧ (autonomousPhase inp s).filt = s.filt ∧
      (inp.msStrobe = true → (autonomousPhase inp s).msCount = 0) := by
  unfold autonomousPhase strobePhase
  rw [timebaseStep_direct h]
  split_ifs with hs <;> simp [hs]

/-- Settles O33: neither the autonomous operations nor a command samples, and the phase stays 0
after the strobe. -/
theorem directModeFreezesTelemetry : Obligations.DirectModeFreezesTelemetry := by
  intro s t h hrate hr
  obtain ⟨hstartRate, hstartRaw, hstartFilt⟩ :
      (beginCycle (afterSampling s)).rampRate = s.rampRate ∧
        (beginCycle (afterSampling s)).currentRaw = s.currentRaw ∧
        (beginCycle (afterSampling s)).filt = s.filt := by
    rw [afterSampling_eq]
    exact ⟨rfl, rfl, rfl⟩
  obtain ⟨hraw, hfilt, hcount⟩ :=
    autonomousPhase_direct (hstartRate.trans hrate) (sampledInputs s)
  rw [hstartRaw] at hraw
  rw [hstartFilt] at hfilt
  obtain ⟨u, b, w, rfl, rfl | ⟨i, -, hu⟩⟩ := runCycle_cases_of_no_reset (step_next h).2 hr
  · exact ⟨hraw, hfilt, hcount⟩
  · obtain ⟨huraw, hufilt⟩ := exec_telemetry_eq hu
    refine ⟨huraw.trans hraw, hufilt.trans hfilt, fun hs => ?_⟩
    rcases exec_msCount hu with hzero | hsame
    · exact hzero
    · exact hsame.trans (hcount hs)

/-! ### Jumps of the current speed (R231, C2) -/

/-- The autonomous operations move a current speed by at most 1 (R231). -/
theorem autonomousPhase_curSpeed (inp : Inputs) (s : State) (m : Motor) :
    (curSpeed (autonomousPhase inp s) m - curSpeed s m).natAbs ≤ 1 := by
  unfold autonomousPhase
  split_ifs
  · have hregs := strobePhase_motorRegs m inp.isense s
    simp only [motorRegs, Prod.mk.injEq] at hregs
    obtain ⟨-, hcur, -⟩ := hregs
    have hstep : curSpeed (strobePhase inp.isense s) m = curSpeed (timebaseStep inp.isense s) m :=
      congrArg BitVec.toInt hcur
    rw [hstep]
    rcases timebaseStep_cases inp.isense s with ⟨-, e⟩ | ⟨-, -, e⟩ | ⟨-, -, e⟩ <;> rw [e]
    · simp [curSpeed]
    · have hsame : curSpeed (setMsCount 0 s) m = curSpeed s m := rfl
      rw [curSpeed_rampTick, rampSpeed, hsame]
      split_ifs <;> omega
    · simp [curSpeed]
  · simp

/-- A command leaves a motor's current speed, unless it is the motor's brake or neutral, or its
speed command in direct mode (R170, R180, R190, R195). -/
theorem exec_curSpeed {i : Instr} {s t : State} {m : Motor} (he : exec i s = .next t)
    (h : setsTarget m i = true → i ≠ .motorBrake m ∧ i ≠ .motorNeutral m ∧ s.rampRate ≠ 0) :
    curSpeed t m = curSpeed s m := by
  cases hi : setsTarget m i with
  | false =>
    have hregs := exec_motorRegs hi he
    simp only [motorRegs, Prod.mk.injEq] at hregs
    obtain ⟨-, hcur, -⟩ := hregs
    exact congrArg BitVec.toInt hcur
  | true =>
    obtain ⟨hbrake, hneutral, hrate⟩ := h hi
    cases i with
    | motorForward n imm | motorBackward n imm =>
      cases he
      rw [speedCommand_ramped hrate]
      rfl
    | motorBrake n => simp_all [setsTarget]
    | motorNeutral n => simp_all [setsTarget]
    | _ => cases hi

/-- Settles O32: without a reset and such a command, the cycle's change of the current speed is the
autonomous operations'. -/
theorem onlyCommandsJumpSpeed : Obligations.OnlyCommandsJumpSpeed := by
  intro s t m h hjump
  by_contra hcon
  obtain ⟨hr, hno⟩ := not_or.1 hcon
  obtain ⟨hstart, hstartRate⟩ : curSpeed (beginCycle (afterSampling s)) m = curSpeed s m ∧
      (afterSampling s).rampRate = s.rampRate := by
    rw [afterSampling_eq]
    exact ⟨rfl, rfl⟩
  have hauto := autonomousPhase_curSpeed (sampledInputs s) (beginCycle (afterSampling s)) m
  obtain ⟨-, -, -, hrate⟩ := autonomousPhase_cfg (sampledInputs s) (afterSampling s)
  have hsame : curSpeed t m =
      curSpeed (autonomousPhase (sampledInputs s) (beginCycle (afterSampling s))) m := by
    obtain ⟨u, b, w, rfl, rfl | ⟨i, hp, hu⟩⟩ :=
      runCycle_cases_of_no_reset (step_next h).2 (by simpa using hr)
    · rfl
    · refine (exec_curSpeed hu fun hi => ?_ : curSpeed u m = _)
      rw [hrate, hstartRate]
      simpa only [imp_false, not_or] using fun hc => hno ⟨i, hp, hi, hc⟩
  omega

/-! ### Ticks along a schedule (R222) -/

/-- In ramped mode the timebase counts strobes modulo the rate (R220). -/
theorem timebaseStep_msCount {s : State} (h : s.msCount.toNat < s.rampRate.toNat)
    (x : PerMotor Half) :
    (timebaseStep x s).msCount.toNat = (s.msCount.toNat + 1) % s.rampRate.toNat := by
  have hfits := s.rampRate.isLt
  by_cases hdue : s.rampRate.toNat ≤ s.msCount.toNat + 1
  · have hreached : s.msCount.toNat + 1 = s.rampRate.toNat := by omega
    have hne : s.rampRate ≠ 0 := fun h0 => by simp [h0] at h
    rw [timebaseStep_tick hne hdue, hreached, Nat.mod_self]
    simp
  · rw [timebaseStep_count (by omega), setMsCount_msCount, BitVec.toNat_ofNat,
      Nat.mod_eq_of_lt (by omega), Nat.mod_eq_of_lt (by omega)]

/-- The strobes of a one-cycle longer schedule. -/
theorem strobeCount_cons (inp : Inputs) (sched : List Inputs) :
    strobeCount (inp :: sched) = (if inp.msStrobe = true then 1 else 0) + strobeCount sched := by
  cases h : inp.msStrobe <;> simp [strobeCount, h, Nat.add_comm]

/-- In ramped mode the autonomous operations count the cycle's strobe modulo the rate (R220). -/
theorem autonomousPhase_msCount {s : State} (h : s.msCount.toNat < s.rampRate.toNat)
    (inp : Inputs) :
    (autonomousPhase inp s).msCount.toNat =
      (s.msCount.toNat + if inp.msStrobe = true then 1 else 0) % s.rampRate.toNat := by
  unfold autonomousPhase strobePhase
  split_ifs
  · simpa using timebaseStep_msCount h inp.isense
  · exact (Nat.mod_eq_of_lt h).symm

/-- A unit in ramped mode at rate `r`, whose phase shows `n` strobes and whose coming cycles are
`queue` (R222). -/
structure Ticking (r : Half) (n : Nat) (queue : List Inputs) (s : State) : Prop where
  configLegal : s.cfg.WellFormed
  rate : s.rampRate = r
  phase : s.msCount.toNat = n % r.toNat
  inputs : s.inputs = queue

/-- A ramp rate other than 0 is a positive number. -/
theorem toNat_rate_pos {r : Half} (h : r ≠ 0) : 0 < r.toNat :=
  (BitVec.toNat_pos r).2 ((BitVec.pos_iff_ne_zero r).2 h)

/-- Under a legal configuration a step is the cycle of the inputs queued first (R60). -/
theorem step_of_runCycle {inp : Inputs} {queue : List Inputs} {s t : State}
    (hc : s.cfg.WellFormed) (hinputs : s.inputs = inp :: queue)
    (h : runCycle inp { s with inputs := queue } = .next t) : step s = .next t := by
  rw [step_eq_runCycle hc, sampledInputs_cons hinputs, afterSampling_cons hinputs, h]

/-- A cycle with neither reset nor a new rate keeps the unit ticking, its strobe counted. -/
theorem Ticking.after_step {r : Half} {n : Nat} {inp : Inputs} {queue : List Inputs} {s : State}
    (hs : Ticking r n (inp :: queue) s) (h0 : r ≠ 0) (hr : inp.rst = false)
    (hno : ∀ i, performed inp = some i → setsRampRate i = false) :
    ∃ t, step s = .next t ∧
      Ticking r (n + if inp.msStrobe = true then 1 else 0) queue t := by
  obtain ⟨hcfg, rfl, hphase, hinputs⟩ := hs
  obtain ⟨t, ht⟩ := runCycle_answers inp { s with inputs := queue }
  refine ⟨t, step_of_runCycle hcfg hinputs ht, ?_⟩
  obtain ⟨hc, hi, -⟩ := runCycle_cfg ht
  obtain ⟨-, -, -, hrate⟩ := autonomousPhase_cfg inp { s with inputs := queue }
  have hcount := autonomousPhase_msCount (s := beginCycle { s with inputs := queue })
    (hphase ▸ Nat.mod_lt _ (toNat_rate_pos h0)) inp
  have htimebase : t.rampRate = s.rampRate ∧ t.msCount =
      (autonomousPhase inp (beginCycle { s with inputs := queue })).msCount := by
    obtain ⟨u, b, w, rfl, rfl | ⟨i, hp, hu⟩⟩ := runCycle_cases_of_no_reset ht hr
    · exact ⟨hrate, rfl⟩
    · exact (exec_timebase (hno i hp) hu).imp_left fun h => h.trans hrate
  obtain ⟨htrate, htcount⟩ := htimebase
  refine ⟨hc ▸ hcfg, htrate, ?_, hi⟩
  rw [htcount, hcount]
  simp [hphase]

/-- So does a schedule of such cycles. -/
theorem Ticking.after_run {r : Half} {n : Nat} {sched rest : List Inputs} {s : State}
    (hs : Ticking r n (sched ++ rest) s) (h0 : r ≠ 0)
    (hsched : ∀ inp ∈ sched, inp.rst = false ∧
      ∀ i, performed inp = some i → setsRampRate i = false) :
    ∃ t, Host.Core.run Sys2Proof.core sched.length s = .next t ∧
      Ticking r (n + strobeCount sched) rest t := by
  induction sched generalizing n s with
  | nil => exact ⟨s, rfl, hs⟩
  | cons inp sched ih =>
    obtain ⟨hinp, hrest⟩ := List.forall_mem_cons.1 hsched
    obtain ⟨u, hu, hticking⟩ := hs.after_step h0 hinp.1 hinp.2
    obtain ⟨t, ht, hlast⟩ := ih hticking hrest
    refine ⟨t, (run_succ _ hu).trans ht, ?_⟩
    rwa [strobeCount_cons, ← Nat.add_assoc]

/-- MOTOR_SET_RAMP_RATE starts the unit ticking with no strobe counted, its own cycle's among them
(R200, R222). -/
theorem ticking_of_motorSetRampRate {s : State} {first : Inputs} {queue : List Inputs} {r : Half}
    (hc : s.cfg.WellFormed) (hp : performed first = some (.motorSetRampRate r))
    (hinputs : s.inputs = first :: queue) : ∃ t, step s = .next t ∧ Ticking r 0 queue t := by
  have hrun := runCycle_performed (s := { s with inputs := queue }) hp rfl
  obtain ⟨hcfg, hqueue, -⟩ := runCycle_cfg hrun
  refine ⟨_, step_of_runCycle hc hinputs hrun, ?_, ?_, by simp [respond], hqueue⟩
  · rw [hcfg]
    exact hc
  · simp [respond, halfOfInt, zextImm]

/-- The next strobe of a ticking unit ticks exactly when it completes a multiple of the rate
(R220, R222). -/
theorem Ticking.timebaseStep_eq {r : Half} {n : Nat} {queue : List Inputs} {s : State}
    (hs : Ticking r n queue s) (h0 : r ≠ 0) (x : PerMotor Half) :
    timebaseStep x s = if r.toNat ∣ n + 1 then rampTick x (setMsCount 0 s)
      else setMsCount (BitVec.ofNat 16 (s.msCount.toNat + 1)) s := by
  obtain ⟨-, rfl, hphase, -⟩ := hs
  have hlt : n % s.rampRate.toNat < s.rampRate.toNat := Nat.mod_lt _ (toNat_rate_pos h0)
  have hdue : s.rampRate.toNat ∣ n + 1 ↔ s.rampRate.toNat ≤ s.msCount.toNat + 1 := by
    rw [Nat.dvd_iff_mod_eq_zero, ← Nat.mod_add_mod, ← Nat.dvd_iff_mod_eq_zero, hphase]
    refine ⟨Nat.le_of_dvd (Nat.succ_pos _), fun hreached => ?_⟩
    exact dvd_of_eq (by omega)
  split_ifs with h
  · exact timebaseStep_tick h0 (hdue.1 h) x
  · exact timebaseStep_count (not_le.1 (mt hdue.2 h)) x

/-- Settles O31: the command starts the unit ticking, and the schedule keeps it so. -/
theorem ticksEveryRateStrobes : Obligations.TicksEveryRateStrobes := by
  intro s first sched rest r hc h0 hp hsched hinputs
  obtain ⟨u, hu, hstart⟩ := ticking_of_motorSetRampRate hc hp hinputs
  obtain ⟨t, ht, hticking⟩ := hstart.after_run h0 hsched
  rw [Nat.zero_add] at hticking
  have hbegin : Ticking r (strobeCount sched) rest (beginCycle t) := by
    obtain ⟨h1, h2, h3, h4⟩ := hticking
    exact ⟨h1, h2, h3, h4⟩
  exact ⟨t, (run_succ _ hu).trans ht, hticking.inputs, hticking.rate, hticking.phase,
    fun x => hbegin.timebaseStep_eq h0 x⟩

end Sys2Proof.Machine
end

section
/-! SUPPORT. The servo family (43_servo.md), first part: numbers. The angle-to-duty map and the
points of the sweep, with the divisions and the 16-bit registers of the model read back as the
naturals of R261 and R266. -/

namespace Sys2Proof.Machine

/-! ### The angle-to-duty map (R261 to R264) -/

/-- The share `a / 90` of a distance, `a` degrees of at most 90, is at most the distance. -/
theorem mul_div_ninety_le {a : Nat} (h : a ≤ 90) (d : Nat) : d * a / 90 ≤ d :=
  Nat.div_le_of_le_mul (by rw [Nat.mul_comm]; exact Nat.mul_le_mul_right d h)

/-- Above the centre the duty is `dzero` and a share of the distance to `dmax` (R261). -/
theorem interpolate_of_pos {cal : ServoCal} (h : cal.dzero ≤ cal.dmax) {a : Int} (ha : 0 < a) :
    interpolate cal a =
      ((cal.dzero + (cal.dmax - cal.dzero) * a.toNat / 90 : Nat) : Int) := by
  obtain ⟨n, rfl⟩ := Int.eq_ofNat_of_zero_le ha.le
  rw [interpolate, if_pos ha, tdiv, Config.angleLimit, ← Nat.cast_sub h, ← Nat.cast_mul,
    Nat.cast_add]
  rfl

/-- Below the centre it is `dzero` less a share of the distance to `dmin`: the division rounds
toward `dzero` on either side (R261). -/
theorem interpolate_of_neg {cal : ServoCal} (h : cal.dmin ≤ cal.dzero) {a : Int} (ha : a < 0) :
    interpolate cal a =
      cal.dzero - (((cal.dzero - cal.dmin) * (-a).toNat / 90 : Nat) : Int) := by
  obtain ⟨n, hn⟩ := Int.eq_ofNat_of_zero_le (neg_nonneg.2 ha.le)
  obtain rfl : a = -(n : Int) := by omega
  rw [interpolate, if_neg (by omega), if_pos ha, tdiv, Config.angleLimit, ← Nat.cast_sub h,
    mul_neg, Int.neg_tdiv, ← Nat.cast_mul, neg_neg, ← sub_eq_add_neg]
  rfl

/-- At the centre it is `dzero` (R261, R263). -/
theorem interpolate_zero (cal : ServoCal) : interpolate cal 0 = cal.dzero := rfl

/-- Every interpolated duty of an angle in range is within the calibration (R263). -/
theorem interpolate_mem {cal : ServoCal} (h : cal.Monotone) {a : Int} (h1 : -90 ≤ a)
    (h2 : a ≤ 90) : (cal.dmin : Int) ≤ interpolate cal a ∧ interpolate cal a ≤ cal.dmax := by
  obtain ⟨hmin, hmax, -⟩ := h
  rcases lt_trichotomy a 0 with ha | rfl | ha
  · have := mul_div_ninety_le (a := (-a).toNat) (by omega) (cal.dzero - cal.dmin)
    rw [interpolate_of_neg hmin ha]
    omega
  · rw [interpolate_zero]
    omega
  · have := mul_div_ninety_le (a := a.toNat) (by omega) (cal.dmax - cal.dzero)
    rw [interpolate_of_pos hmax ha]
    omega

/-- Mounting keeps an angle in range (R264). -/
theorem mountedAngle_mem {angle : Int} (h1 : -90 ≤ angle) (h2 : angle ≤ 90) (c : Config)
    (v : Servo) : -90 ≤ mountedAngle c v angle ∧ mountedAngle c v angle ≤ 90 := by
  unfold mountedAngle
  split_ifs <;> omega

/-- For an angle in range neither the clamp nor the register changes the duty (R263). -/
theorem toNat_servoDuty {c : Config} {v : Servo} (h : (c.servoCal.get v).Monotone) {angle : Int}
    (h1 : -90 ≤ angle) (h2 : angle ≤ 90) :
    ((servoDuty c v angle).toNat : Int) =
      interpolate (c.servoCal.get v) (mountedAngle c v angle) := by
  obtain ⟨ha1, ha2⟩ := mountedAngle_mem h1 h2 c v
  obtain ⟨hmin, hmax⟩ := interpolate_mem h ha1 ha2
  obtain ⟨-, -, hfits⟩ := h
  rw [servoDuty, clamp_of_mem hmin hmax]
  exact toNat_halfOfInt (by omega) (by omega)

/-- Settles O34, by the sign of the mounted angle. -/
theorem servoDutyInterpolates : Obligations.ServoDutyInterpolates := by
  intro c v angle h h1 h2 cal a
  have hduty : ((servoDuty c v angle).toNat : Int) = interpolate cal a := toNat_servoDuty h h1 h2
  obtain ⟨ha1, ha2⟩ : -90 ≤ a ∧ a ≤ 90 := mountedAngle_mem h1 h2 c v
  have hcal : cal.Monotone := h
  obtain ⟨hmin, hmax, -⟩ := hcal
  refine ⟨fun ha => ?_, fun ha => ?_, fun ha => ?_, servoDuty_mem h angle⟩
  · rw [interpolate_of_pos hmax ha] at hduty
    exact_mod_cast hduty
  · have hshare := mul_div_ninety_le (a := (-a).toNat) (by omega) (cal.dzero - cal.dmin)
    rw [interpolate_of_neg hmin ha, ← Nat.cast_sub (hshare.trans (Nat.sub_le _ _))] at hduty
    exact_mod_cast hduty
  · rw [ha, interpolate_zero] at hduty
    exact_mod_cast hduty

/-- The upper end of the map (R263). -/
theorem interpolate_ninety {cal : ServoCal} (h : cal.Monotone) : interpolate cal 90 = cal.dmax := by
  obtain ⟨-, hmax, -⟩ := h
  rw [interpolate_of_pos hmax (by omega), show (90 : Int).toNat = 90 from rfl,
    Nat.mul_div_cancel _ (by omega)]
  omega

/-- The lower end of the map (R263). -/
theorem interpolate_neg_ninety {cal : ServoCal} (h : cal.Monotone) :
    interpolate cal (-90) = cal.dmin := by
  obtain ⟨hmin, -, -⟩ := h
  rw [interpolate_of_neg hmin (by omega), show (-(-90) : Int).toNat = 90 from rfl,
    Nat.mul_div_cancel _ (by omega)]
  omega

/-- Settles O35: the three angles are the map's centre and ends, once mounted. -/
theorem servoDutyEndPoints : Obligations.ServoDutyEndPoints := by
  intro c v h cal
  have hmap : ∀ {angle a : Int} {d : Nat}, -90 ≤ angle → angle ≤ 90 →
      mountedAngle c v angle = a → interpolate cal a = d → (servoDuty c v angle).toNat = d := by
    rintro angle a d h1 h2 rfl hd
    exact_mod_cast (toNat_servoDuty h h1 h2).trans hd
  refine ⟨?_, fun hinv => ⟨?_, ?_⟩, fun hinv => ⟨?_, ?_⟩, fun angle h1 h2 => ?_⟩
  · exact hmap (by omega) (by omega) (by simp [mountedAngle]) (interpolate_zero cal)
  · exact hmap (by omega) le_rfl (by simp [mountedAngle, hinv]) (interpolate_ninety h)
  · exact hmap le_rfl (by omega) (by simp [mountedAngle, hinv]) (interpolate_neg_ninety h)
  · exact hmap (by omega) le_rfl (by simp [mountedAngle, hinv]) (interpolate_neg_ninety h)
  · exact hmap le_rfl (by omega) (by simp [mountedAngle, hinv]) (interpolate_ninety h)
  · obtain ⟨ha1, ha2⟩ := mountedAngle_mem h1 h2 c v
    exact interpolate_mem h ha1 ha2

/-! ### The points of the sweep (R266) -/

/-- A legal step divides the sweep's half of 90 degrees (R8). -/
theorem testStepDeg_dvd {c : Config} (h : c.TestStepLegal) : c.testStepDeg ∣ 90 := by
  have hall : ∀ d ∈ [1, 2, 3, 5, 6, 9, 10, 15, 18, 30, 45, 90], d ∣ 90 := by decide
  exact hall _ h

/-- A legal step is positive (R8). -/
theorem testStepDeg_pos {c : Config} (h : c.TestStepLegal) : 0 < c.testStepDeg :=
  Nat.pos_of_dvd_of_pos (testStepDeg_dvd h) (by omega)

/-- `N` steps make 180 degrees (R266). -/
theorem sweepN_mul_testStepDeg {c : Config} (h : c.TestStepLegal) :
    c.sweepN * c.testStepDeg = 180 :=
  Nat.div_mul_cancel ((testStepDeg_dvd h).trans (by decide))

/-- The way up (R266). -/
theorem testAngle_up {c : Config} {k : Nat} (h : k ≤ c.sweepN) :
    testAngle c k = -90 + ((k * c.testStepDeg : Nat) : Int) := by
  rw [testAngle, if_pos h, Nat.cast_mul]
  rfl

/-- The sweep starts at -90 degrees, under any configuration (R266). -/
theorem testAngle_zero (c : Config) : testAngle c 0 = -90 := by
  rw [testAngle_up (Nat.zero_le _), Nat.zero_mul]
  rfl

/-- The way down, the turning point at `N` included (R266). -/
theorem testAngle_down {c : Config} (hc : c.TestStepLegal) {k : Nat} (h : c.sweepN ≤ k) :
    testAngle c k = 90 - (((k - c.sweepN) * c.testStepDeg : Nat) : Int) := by
  rcases h.eq_or_lt with rfl | hlt
  · rw [testAngle_up le_rfl, sweepN_mul_testStepDeg hc, Nat.sub_self, Nat.zero_mul]
    rfl
  · rw [testAngle, if_neg (not_le.2 hlt), Nat.cast_mul, Nat.cast_sub h]
    rfl

/-- Up to `N` steps make up to 180 degrees, and 180 only at `N` (R266). -/
theorem mul_testStepDeg_le {c : Config} (hc : c.TestStepLegal) {j : Nat} (h : j ≤ c.sweepN) :
    j * c.testStepDeg ≤ 180 ∧ (j * c.testStepDeg = 180 ↔ j = c.sweepN) := by
  rw [← sweepN_mul_testStepDeg hc]
  exact ⟨Nat.mul_le_mul_right _ h, Nat.mul_left_inj (testStepDeg_pos hc).ne'⟩

/-- Settles O36, on the way up and on the way down. -/
theorem sweepPoints : Obligations.SweepPoints := by
  rintro c ⟨-, -, -, -, -, -, hc⟩
  have hN := sweepN_mul_testStepDeg hc
  refine ⟨hN, fun k h => ?_, fun k h h2 => ?_, testAngle_zero c, ?_, fun k h => ?_⟩
  · rw [testAngle_up h, Nat.cast_mul]
  · rw [testAngle_down hc h.le, Nat.cast_mul]
  · rw [testAngle_down hc (by omega), show 2 * c.sweepN - c.sweepN = c.sweepN by omega, hN]
    rfl
  · rcases le_or_gt k c.sweepN with hup | hdown
    · obtain ⟨hle, hiff⟩ := mul_testStepDeg_le hc hup
      rw [testAngle_up hup]
      omega
    · obtain ⟨hle, -⟩ := mul_testStepDeg_le hc (j := k - c.sweepN) (by omega)
      have hsome : 0 < (k - c.sweepN) * c.testStepDeg :=
        Nat.mul_pos (by omega) (testStepDeg_pos hc)
      rw [testAngle_down hc hdown.le]
      omega

end Sys2Proof.Machine
end

section
/-! SUPPORT. The servo family, second part: operations. The results of the three servo commands and
of the strobe step, each put together from the writes it makes, and what they leave alone. -/

namespace Sys2Proof.Machine

/-! ### The commands (R260, R262, R265, R268) -/

/-- Positioning a servo, as one record: the duty, and a full hold (R262). -/
theorem servoApply_eq (v : Servo) (angle : Int) (s : State) :
    servoApply v angle s =
      { s with
        pwmVal := s.pwmVal.set (servoChannel v) (servoDuty s.cfg v angle)
        pwmUpd := s.pwmUpd.set (servoChannel v) true
        trace := s.trace ++ [.pwm (servoChannel v) (servoDuty s.cfg v angle)]
        holdCount := s.holdCount.set v (BitVec.ofNat 16 s.cfg.settleMs) } := by
  rw [servoApply, halfOfInt_natCast]
  rfl

/-- The angles SERVO_SET turns away (R260). -/
theorem angleInRange_eq_false_iff (angle : Int) :
    angleInRange angle = false ↔ angle < -90 ∨ 90 < angle := by
  rw [angleInRange, decide_eq_false_iff_not, Config.angleLimit]
  omega

/-- SERVO_SET of an angle in range, with no sweep on the servo, positions it (R260, R262). -/
theorem exec_servoSet_of_inactive {v : Servo} {imm : Half} {s : State} (h1 : -90 ≤ imm.toInt)
    (h2 : imm.toInt ≤ 90) (ha : s.testActive.get v = false) :
    exec (.servoSet v imm) s =
      .next (respond .ok Opcode.servoSet.byte 0 (servoApply v imm.toInt s)) := by
  have hin : angleInRange (sextImm imm) ≠ false := by
    rw [ne_eq, angleInRange_eq_false_iff, sextImm]
    omega
  exact (if_neg hin).trans (if_neg (by simp [ha]))

/-- Settles O18, by the two checks in their order. -/
theorem servoSetResult : Obligations.ServoSetResult := by
  refine fun v imm s => ⟨rfl, ?_⟩
  simp only [exec, execServoSet, sextImm, angleInRange_eq_false_iff]
  split_ifs
  · rfl
  · rfl
  · rw [servoApply_eq]
    rfl

/-- SERVO_TEST with no sweep on the servo starts one (R265). -/
theorem exec_servoTest_of_inactive {v : Servo} {s : State} (ha : s.testActive.get v = false) :
    exec (.servoTest v) s = .next (respond .ok Opcode.servoTest.byte 0
      (servoApply v (testAngle s.cfg 0) (setTestIndex v 0 (setTestActive v true s)))) :=
  if_neg (by simp [ha])

/-- Settles O19, by whether the servo's sweep runs. -/
theorem servoTestResult : Obligations.ServoTestResult := by
  refine fun v s => ⟨rfl, ?_⟩
  simp only [exec, execServoTest, testAngle_zero]
  split_ifs
  · rfl
  · rw [servoApply_eq]
    rfl

/-- The status data of a servo, by its sweep and its hold (R268). -/
theorem servoStatusData_eq (s : State) (v : Servo) :
    servoStatusData s v =
      if s.testActive.get v = true then (if s.holdCount.get v = 0 then 2 else 3)
      else (if s.holdCount.get v = 0 then 0 else 1) := by
  have hpos : decide (0 < s.holdCount.get v) = decide (s.holdCount.get v ≠ 0) :=
    decide_eq_decide.2 (BitVec.pos_iff_ne_zero _)
  rw [servoStatusData, hpos]
  split_ifs with ha hh hh <;> simp_all

/-- Settles O20: the response is the only write. -/
theorem servoGetStatusResult : Obligations.ServoGetStatusResult := by
  refine fun v s => ⟨rfl, ?_⟩
  rw [← servoStatusData_eq]
  rfl

/-! ### The strobe step (R270, R271) -/

/-- A hold above 1 counts down (R270). -/
theorem servoStrobeStep_countDown {v : Servo} {s : State} (h : 1 < (s.holdCount.get v).toNat) :
    servoStrobeStep v s = setHoldCount v (s.holdCount.get v - 1) s := by
  rcases servoStrobeStep_cases v s with ⟨-, e⟩ | ⟨h1, -⟩ | ⟨h0, -, -⟩ | ⟨h0, -, -⟩
  · exact e
  · simp [h1] at h
  · simp [h0] at h
  · simp [h0] at h

/-- A hold of 1 ends, and the channel is released (R270). -/
theorem servoStrobeStep_release {v : Servo} {s : State} (h : s.holdCount.get v = 1) :
    servoStrobeStep v s = pwmWrite (servoChannel v) 0 (setHoldCount v 0 s) := by
  rcases servoStrobeStep_cases v s with ⟨h2, -⟩ | ⟨-, e⟩ | ⟨h0, -, -⟩ | ⟨h0, -, -⟩
  · simp [h] at h2
  · exact e
  · simp [h] at h0
  · simp [h] at h0

/-- With neither hold nor sweep there is nothing to do (R270). -/
theorem servoStrobeStep_rest {v : Servo} {s : State} (h : s.holdCount.get v = 0)
    (ha : s.testActive.get v = false) : servoStrobeStep v s = s := by
  rcases servoStrobeStep_cases v s with ⟨h2, -⟩ | ⟨h1, -⟩ | ⟨-, ha', -⟩ | ⟨-, -, e⟩
  · simp [h] at h2
  · simp [h] at h1
  · simp [ha] at ha'
  · exact e

/-- In the gap between two points a sweep advances (R270, R271). -/
theorem servoStrobeStep_advance {v : Servo} {s : State} (h : s.holdCount.get v = 0)
    (ha : s.testActive.get v = true) : servoStrobeStep v s = servoTestAdvance v s := by
  rcases servoStrobeStep_cases v s with ⟨h2, -⟩ | ⟨h1, -⟩ | ⟨-, -, e⟩ | ⟨-, ha', -⟩
  · simp [h] at h2
  · simp [h] at h1
  · exact e
  · simp [ha] at ha'

/-- At its last point a sweep ends (R271). -/
theorem servoTestAdvance_end {v : Servo} {s : State}
    (h : (s.testIndex.get v).toNat = 2 * s.cfg.sweepN) :
    servoTestAdvance v s = setTestIndex v 0 (setTestActive v false s) := if_pos h

/-- Before it the servo goes to the next point; the index, at most 360, does not wrap (R41, R271). -/
theorem servoTestAdvance_next {v : Servo} {s : State}
    (h : (s.testIndex.get v).toNat < 2 * s.cfg.sweepN) :
    servoTestAdvance v s =
      servoApply v (testAngle s.cfg ((s.testIndex.get v).toNat + 1))
        (setTestIndex v (BitVec.ofNat 16 ((s.testIndex.get v).toNat + 1)) s) := by
  have hN : s.cfg.sweepN ≤ 180 := Nat.div_le_self _ _
  have hnext : (s.testIndex.get v + 1).toNat = (s.testIndex.get v).toNat + 1 :=
    BitVec.toNat_add_of_lt (y := 1) (by simp; omega)
  rw [← hnext, BitVec.ofNat_toNat, BitVec.setWidth_eq]
  exact if_neg h.ne

/-- Settles O37, by the five cases of the strobe step. -/
theorem servoStrobeStepResult : Obligations.ServoStrobeStepResult := by
  refine fun v s => ⟨fun h => servoStrobeStep_countDown h, fun h => servoStrobeStep_release h,
    fun h ha => servoStrobeStep_rest h ha, fun h ha hk => ?_, fun h ha hk => ?_⟩
  · rw [servoStrobeStep_advance h ha, servoTestAdvance_end hk]
    rfl
  · rw [servoStrobeStep_advance h ha, servoTestAdvance_next hk, servoApply_eq]
    rfl

/-! ### Servos and motors apart (R273) -/

/-- States in which every motor owns the same, with the same timebase, have the same motor state. -/
theorem sameMotorState_of_motorRegs {s t : State} (h : ∀ m, motorRegs m t = motorRegs m s)
    (hrate : t.rampRate = s.rampRate) (hcount : t.msCount = s.msCount) : SameMotorState t s := by
  simp only [motorRegs, Prod.mk.injEq, forall_and] at h
  obtain ⟨h1, h2, h3, h4, h5, h6, h7, h8, h9, -⟩ := h
  exact ⟨PerMotor.ext_get h1, PerMotor.ext_get h2, PerMotor.ext_get h3, PerMotor.ext_get h4,
    PerMotor.ext_get h5, PerMotor.ext_get h6, PerMotor.ext_get h7, hrate, hcount,
    fun m => ⟨h8 m, h9 m⟩⟩

/-- What a servo owns is its state (R273). -/
theorem sameServoState_iff {v : Servo} {s t : State} :
    SameServoState v t s ↔ servoRegs v t = servoRegs v s := by
  simp only [servoRegs, Prod.mk.injEq]

/-- A command that drives a servo is no motor's, sets no ramp rate and drives no other servo
(R50). -/
theorem drivesServo_apart {v : Servo} {i : Instr} (h : drivesServo v i = true) :
    (∀ m, setsTarget m i = false) ∧ setsRampRate i = false ∧
      ∀ w, w ≠ v → drivesServo w i = false := by
  cases i with
  | servoSet u imm | servoTest u =>
    obtain rfl : u = v := of_decide_eq_true h
    exact ⟨fun _ => rfl, rfl, fun w hw => decide_eq_false hw.symm⟩
  | _ => cases h

/-- Settles O58: what each owner's registers see of the other's operations. -/
theorem servosAndMotorsApart : Obligations.ServosAndMotorsApart := by
  refine ⟨fun i s t v he hv => ?_, fun v s => ⟨?_, fun w hw => ?_⟩, fun i s t he hv v => ?_,
    fun x s v => ?_⟩
  · obtain ⟨hmotor, hrate, hother⟩ := drivesServo_apart hv
    obtain ⟨hr, hc⟩ := exec_timebase hrate he
    exact ⟨sameMotorState_of_motorRegs (fun m => exec_motorRegs (hmotor m) he) hr hc,
      fun w hw => sameServoState_iff.2 (exec_servoRegs (hother w hw) he)⟩
  · exact sameMotorState_of_motorRegs (fun m => servoStrobeStep_motorRegs v m s) (by simp) (by simp)
  · exact sameServoState_iff.2 (servoStrobeStep_other hw s)
  · exact sameServoState_iff.2 (exec_servoRegs (hv v) he)
  · exact sameServoState_iff.2 (timebaseStep_servoRegs v x s)

end Sys2Proof.Machine
end

section
/-! SUPPORT. The servo family, third part: a servo along a schedule of cycles. What a servo shows
changes at strobes, by its own strobe step, and by commands that drive it. A `Timeline` says what
the servo shows by the number of strobes; one induction over the schedule serves a held duty (R270)
and a sweep (R271). -/

namespace Sys2Proof.Machine

/-! ### What a servo shows -/

/-- What servo `v` shows: its hold, its sweep and the duty on its channel, with the configuration
they are read against. -/
structure ServoView where
  cfg : Config
  hold : Half
  active : Bool
  index : Half
  duty : Half

/-- What servo `v` shows in a state. -/
def servoView (v : Servo) (s : State) : ServoView where
  cfg := s.cfg
  hold := s.holdCount.get v
  active := s.testActive.get v
  index := s.testIndex.get v
  duty := s.pwmVal.get (servoChannel v)

/-- A servo whose registers are left shows the same. -/
theorem servoView_congr {v : Servo} {s t : State} (h : servoRegs v t = servoRegs v s)
    (hc : t.cfg = s.cfg) : servoView v t = servoView v s := by
  simp only [servoRegs, Prod.mk.injEq] at h
  obtain ⟨hh, ha, hi, hp, -⟩ := h
  simp only [servoView, hc, hh, ha, hi, hp]

/-- Of the autonomous operations a servo sees its own strobe step only (R60). -/
theorem servoView_strobePhase (v : Servo) (x : PerMotor Half) (s : State) :
    servoView v (strobePhase x s) = servoView v (servoStrobeStep v s) :=
  servoView_congr (strobePhase_servoRegs v x s) (by simp [strobePhase])

/-- A command that does not drive the servo leaves what it shows. -/
theorem servoView_exec {v : Servo} {i : Instr} (h : drivesServo v i = false) {s t : State}
    (he : exec i s = .next t) : servoView v t = servoView v s :=
  servoView_congr (exec_servoRegs h he) (exec_cfg he).1

/-- While its sweep runs, every command leaves what the servo shows: its own answer BUSY or
OUT_OF_RANGE (R260, R265). -/
theorem servoView_exec_of_active {v : Servo} {i : Instr} {s t : State}
    (ha : s.testActive.get v = true) (he : exec i s = .next t) :
    servoView v t = servoView v s := by
  cases hi : drivesServo v i with
  | false => exact servoView_exec hi he
  | true =>
    cases i with
    | servoSet u imm =>
      obtain rfl : u = v := of_decide_eq_true hi
      simp only [exec, execServoSet, ha, if_true] at he
      split_ifs at he <;> cases he <;> rfl
    | servoTest u =>
      obtain rfl : u = v := of_decide_eq_true hi
      simp only [exec, execServoTest, ha, if_true] at he
      cases he
      rfl
    | _ => cases hi

/-! ### Timelines -/

/-- A claim on what servo `v` shows after `n` strobes, for every `n`, which a strobe carries to the
next `n` and no command of the kind `K` breaks. -/
structure Timeline (v : Servo) (K : Instr → Prop) (P : Nat → ServoView → Prop) : Prop where
  strobe : ∀ {n s}, s.cfg.WellFormed → P n (servoView v s) →
    P (n + 1) (servoView v (servoStrobeStep v s))
  command : ∀ {n i s t}, K i → P n (servoView v s) → exec i s = .next t → P n (servoView v t)

section
variable {v : Servo} {K : Instr → Prop} {P : Nat → ServoView → Prop}

/-- A cycle without reset follows the timeline, its strobe counted. -/
theorem Timeline.after_cycle (hT : Timeline v K P) {n : Nat} {inp : Inputs} {s t : State}
    (hc : s.cfg.WellFormed) (hs : P n (servoView v s)) (hr : inp.rst = false)
    (hK : ∀ i, performed inp = some i → K i) (h : runCycle inp s = .next t) :
    P (n + if inp.msStrobe = true then 1 else 0) (servoView v t) := by
  have hauto : P (n + if inp.msStrobe = true then 1 else 0)
      (servoView v (autonomousPhase inp (beginCycle s))) := by
    unfold autonomousPhase
    split_ifs
    · rw [servoView_strobePhase]
      exact hT.strobe hc hs
    · exact hs
  obtain ⟨u, b, w, rfl, rfl | ⟨i, hp, hu⟩⟩ := runCycle_cases_of_no_reset h hr
  · exact hauto
  · exact (hT.command (hK i hp) hauto hu : P _ (servoView v u))

/-- So does a schedule of such cycles, its strobes counted. -/
theorem Timeline.after_run (hT : Timeline v K P) {n : Nat} {sched rest : List Inputs} {s : State}
    (hc : s.cfg.WellFormed) (hs : P n (servoView v s)) (hinputs : s.inputs = sched ++ rest)
    (hsched : ∀ inp ∈ sched, inp.rst = false ∧ ∀ i, performed inp = some i → K i) :
    ∃ t, Host.Core.run Sys2Proof.core sched.length s = .next t ∧ t.cfg = s.cfg ∧
      t.inputs = rest ∧ P (n + strobeCount sched) (servoView v t) := by
  induction sched generalizing n s with
  | nil => exact ⟨s, rfl, rfl, hinputs, hs⟩
  | cons inp sched ih =>
    obtain ⟨⟨hr, hK⟩, htail⟩ := List.forall_mem_cons.1 hsched
    obtain ⟨u, hu⟩ := runCycle_answers inp { s with inputs := sched ++ rest }
    obtain ⟨hcfg, hqueue, -⟩ := runCycle_cfg hu
    have hnext := hT.after_cycle (s := { s with inputs := sched ++ rest }) hc hs hr hK hu
    obtain ⟨t, ht, htcfg, hrest, hlast⟩ := ih (hcfg ▸ hc) hnext hqueue htail
    refine ⟨t, (run_succ _ (step_of_runCycle hc hinputs hu)).trans ht, htcfg.trans hcfg, hrest, ?_⟩
    rwa [strobeCount_cons, ← Nat.add_assoc]

/-- No strobe starts a sweep (R270). -/
theorem autonomousPhase_inactive {s : State} (h : s.testActive.get v = false) (inp : Inputs) :
    (servoView v (autonomousPhase inp s)).active = false := by
  unfold autonomousPhase
  split_ifs
  · rw [servoView_strobePhase]
    rcases servoStrobeStep_cases v s with ⟨-, e⟩ | ⟨-, e⟩ | ⟨-, ha, -⟩ | ⟨-, -, e⟩
    · simpa [servoView, e] using h
    · simpa [servoView, e] using h
    · simp [h] at ha
    · simpa [servoView, e] using h
  · exact h

/-- From a state with no sweep on the servo: a cycle whose command starts the timeline, its own
strobe not counted, and a schedule that follows it. -/
theorem Timeline.of_command (hT : Timeline v K P) {i : Instr} {first : Inputs}
    {sched rest : List Inputs} {s : State} (hc : s.cfg.WellFormed)
    (ha : s.testActive.get v = false) (hp : performed first = some i)
    (hstart : ∀ {u}, u.cfg = s.cfg → u.testActive.get v = false →
      ∃ t, exec i u = .next t ∧ P 0 (servoView v t))
    (hsched : ∀ inp ∈ sched, inp.rst = false ∧ ∀ i, performed inp = some i → K i)
    (hinputs : s.inputs = first :: sched ++ rest) :
    ∃ t, Host.Core.run Sys2Proof.core (sched.length + 1) s = .next t ∧ t.cfg = s.cfg ∧
      t.inputs = rest ∧ P (strobeCount sched) (servoView v t) := by
  obtain ⟨hauto, -⟩ := autonomousPhase_cfg first { s with inputs := sched ++ rest }
  have hinactive := autonomousPhase_inactive
    (s := beginCycle { s with inputs := sched ++ rest }) ha first
  obtain ⟨u, hu, hzero⟩ := hstart hauto hinactive
  have hrun := runCycle_performed hp hu
  obtain ⟨hcfg, hqueue, -⟩ := runCycle_cfg hrun
  obtain ⟨t, ht, htcfg, hrest, hlast⟩ :=
    hT.after_run (s := setRespValid true u) (hcfg ▸ hc) hzero hqueue hsched
  rw [Nat.zero_add] at hlast
  exact ⟨t, (run_succ _ (step_of_runCycle hc hinputs hrun)).trans ht, htcfg.trans hcfg, hrest,
    hlast⟩

end

/-! ### A held duty (R262, R270, R272) -/

/-- `r` strobes after the duty `d` was set: the hold is what is left of the settle time, and the
channel shows `d` until none is left, then 0. -/
structure Held (d : Half) (r : Nat) (x : ServoView) : Prop where
  hold : x.hold.toNat = x.cfg.settleMs - r
  duty : x.duty = if r < x.cfg.settleMs then d else 0

/-- A positioned servo holds its duty (R262). -/
theorem held_servoApply {s : State} (hc : s.cfg.WellFormed) (v : Servo) (angle : Int) :
    Held (servoDuty s.cfg v angle) 0 (servoView v (servoApply v angle s)) := by
  have hpos : 0 < s.cfg.settleMs := by
    obtain ⟨-, -, -, -, -, ⟨hpos, -⟩, -⟩ := hc
    exact hpos
  constructor
  · simpa [servoView, servoApply] using toNat_settle hc
  · simp [servoView, servoApply, hpos]

/-- While the hold runs, a strobe counts it down, releases the channel at its end, and leaves the
sweep (R270). -/
theorem Held.after_strobe {d : Half} {r : Nat} {v : Servo} {s : State}
    (h : Held d r (servoView v s)) (hr : r < s.cfg.settleMs) :
    Held d (r + 1) (servoView v (servoStrobeStep v s)) ∧
      (servoStrobeStep v s).testActive.get v = s.testActive.get v ∧
      (servoStrobeStep v s).testIndex.get v = s.testIndex.get v := by
  obtain ⟨hhold, hduty⟩ := h
  simp only [servoView, hr, if_true] at hhold hduty
  rcases Nat.lt_or_ge (r + 1) s.cfg.settleMs with hlt | hlast
  · have h1 : 1 < (s.holdCount.get v).toNat := by omega
    have hdown := toNat_sub_one h1
    rw [servoStrobeStep_countDown h1]
    refine ⟨⟨?_, ?_⟩, rfl, rfl⟩
    · simp only [servoView, setHoldCount_holdCount, PerServo.get_set, if_true, setHoldCount_cfg]
      omega
    · simp [servoView, hlt, hduty]
  · have h1 : s.holdCount.get v = 1 := BitVec.eq_of_toNat_eq (by simp; omega)
    rw [servoStrobeStep_release h1]
    refine ⟨⟨?_, ?_⟩, rfl, rfl⟩
    · simp [servoView, Nat.sub_eq_zero_of_le hlast]
    · simp [servoView, not_lt.2 hlast]

/-- After the settle time no hold is left (R270). -/
theorem Held.hold_eq_zero {d : Half} {r : Nat} {v : Servo} {s : State}
    (h : Held d r (servoView v s)) (hr : s.cfg.settleMs ≤ r) : s.holdCount.get v = 0 := by
  have hhold : (s.holdCount.get v).toNat = s.cfg.settleMs - r := h.hold
  exact BitVec.eq_of_toNat_eq (by simp; omega)

/-- With no sweep and no servo command, a duty set is held and then released for good. -/
theorem timeline_held (v : Servo) (d : Half) :
    Timeline v (fun i => drivesServo v i = false) fun n x => x.active = false ∧ Held d n x where
  strobe := by
    rintro n s - ⟨ha, hheld⟩
    rcases Nat.lt_or_ge n s.cfg.settleMs with hlt | hge
    · obtain ⟨hnext, hactive, -⟩ := hheld.after_strobe hlt
      exact ⟨hactive.trans ha, hnext⟩
    · rw [servoStrobeStep_rest (hheld.hold_eq_zero hge) ha]
      obtain ⟨hhold, hduty⟩ := hheld
      have hge' : (servoView v s).cfg.settleMs ≤ n := hge
      refine ⟨ha, by omega, ?_⟩
      rw [hduty, if_neg (by omega), if_neg (by omega)]
  command := fun hi hs he => (servoView_exec hi he).symm ▸ hs

/-- Settles O38: the command starts the held duty's timeline. -/
theorem holdLastsSettleStrobes : Obligations.HoldLastsSettleStrobes := by
  intro s v imm first sched rest hc ha hp h1 h2 hsched hinputs
  obtain ⟨t, ht, hcfg, hrest, hactive, hhold, hduty⟩ :=
    (timeline_held v (servoDuty s.cfg v imm.toInt)).of_command hc ha hp
      (fun hucfg hu => ⟨_, exec_servoSet_of_inactive h1 h2 hu, hu,
        hucfg ▸ held_servoApply (hucfg ▸ hc) v imm.toInt⟩)
      hsched hinputs
  have hsettle : t.cfg.settleMs = s.cfg.settleMs := congrArg Config.settleMs hcfg
  rw [← hsettle]
  exact ⟨t, ht, hrest, hactive, hhold, hduty⟩

/-! ### The sweep (R265, R266, R271, R380) -/

/-- A count that does not complete a group of `M`. -/
theorem succ_div_mod_of_lt {n M : Nat} (h : n % M + 1 < M) :
    (n + 1) / M = n / M ∧ (n + 1) % M = n % M + 1 := by
  have := Nat.mod_add_div n M
  exact (Nat.div_mod_unique (by omega)).2 ⟨by omega, h⟩

/-- A count that completes a group of `M`. -/
theorem succ_div_mod_of_eq {n M : Nat} (h : n % M + 1 = M) :
    (n + 1) / M = n / M + 1 ∧ (n + 1) % M = 0 := by
  have := Nat.mod_add_div n M
  exact (Nat.div_mod_unique (by omega)).2 ⟨by rw [Nat.mul_succ]; omega, by omega⟩

/-- The sweep is at point `k`, `r` strobes after that point's duty was set. -/
structure AtPoint (v : Servo) (k r : Nat) (x : ServoView) : Prop where
  active : x.active = true
  index : x.index.toNat = k
  held : Held (servoDuty x.cfg v (testAngle x.cfg k)) r x

/-- A strobe during the point's hold leaves the sweep at the point (R270). -/
theorem AtPoint.after_hold_strobe {v : Servo} {k r : Nat} {s : State}
    (h : AtPoint v k r (servoView v s)) (hr : r < s.cfg.settleMs) :
    AtPoint v k (r + 1) (servoView v (servoStrobeStep v s)) := by
  obtain ⟨hactive, hindex, hheld⟩ := h
  obtain ⟨hnext, ha, hi⟩ := hheld.after_strobe hr
  refine ⟨ha.trans hactive, (congrArg BitVec.toNat hi).trans hindex, ?_⟩
  have hcfg : (servoView v (servoStrobeStep v s)).cfg = s.cfg := servoStrobeStep_cfg v s
  rw [hcfg]
  exact hnext

/-- The strobe in the gap after a point before the last takes the sweep to the next point (R271). -/
theorem AtPoint.after_gap_strobe {v : Servo} {k : Nat} {s : State} (hc : s.cfg.WellFormed)
    (h : AtPoint v k s.cfg.settleMs (servoView v s)) (hk : k < 2 * s.cfg.sweepN) :
    AtPoint v (k + 1) 0 (servoView v (servoStrobeStep v s)) := by
  obtain ⟨hactive, hindex, hheld⟩ := h
  have hN : s.cfg.sweepN ≤ 180 := Nat.div_le_self _ _
  have hindex' : (s.testIndex.get v).toNat = k := hindex
  rw [servoStrobeStep_advance (hheld.hold_eq_zero le_rfl) hactive,
    servoTestAdvance_next (by omega), hindex']
  refine ⟨hactive, ?_, held_servoApply (s := setTestIndex v _ s) hc v _⟩
  simp [servoView, Nat.mod_eq_of_lt (show k + 1 < 65536 by omega)]

/-- The strobe in the gap after the last point ends the sweep; it writes no channel (R271). -/
theorem AtPoint.after_last_strobe {v : Servo} {s : State}
    (h : AtPoint v (2 * s.cfg.sweepN) s.cfg.settleMs (servoView v s)) :
    servoStrobeStep v s = setTestIndex v 0 (setTestActive v false s) := by
  obtain ⟨hactive, hindex, hheld⟩ := h
  rw [servoStrobeStep_advance (hheld.hold_eq_zero le_rfl) hactive, servoTestAdvance_end hindex]

/-- What a running sweep shows after `n` strobes, as long as it has a point for them. -/
def SweepShows (v : Servo) (n : Nat) (x : ServoView) : Prop :=
  n < (2 * x.cfg.sweepN + 1) * (x.cfg.settleMs + 1) →
    AtPoint v (n / (x.cfg.settleMs + 1)) (n % (x.cfg.settleMs + 1)) x

/-- A sweep at its first point, with no strobe since, follows the sweep's timeline. -/
theorem sweepShows_zero {v : Servo} {x : ServoView} (h : AtPoint v 0 0 x) : SweepShows v 0 x :=
  fun _ => by rwa [Nat.zero_div, Nat.zero_mod]

/-- Whatever is commanded, each point of the sweep is held and then released for one strobe. -/
theorem timeline_sweepShows (v : Servo) : Timeline v (fun _ => True) (SweepShows v) where
  strobe := by
    intro n s hc hs hn
    have hcfg : (servoView v (servoStrobeStep v s)).cfg = s.cfg := servoStrobeStep_cfg v s
    rw [hcfg] at hn ⊢
    have hpoint : AtPoint v (n / (s.cfg.settleMs + 1)) (n % (s.cfg.settleMs + 1))
      (servoView v s) := hs (Nat.lt_of_succ_lt hn)
    have hmod : n % (s.cfg.settleMs + 1) < s.cfg.settleMs + 1 := Nat.mod_lt _ (Nat.succ_pos _)
    rcases Nat.lt_or_ge (n % (s.cfg.settleMs + 1)) s.cfg.settleMs with hlt | hge
    · obtain ⟨hdiv, hrem⟩ := succ_div_mod_of_lt (Nat.succ_lt_succ hlt)
      rw [hdiv, hrem]
      exact hpoint.after_hold_strobe hlt
    · have hgap : n % (s.cfg.settleMs + 1) = s.cfg.settleMs := by omega
      obtain ⟨hdiv, hrem⟩ := succ_div_mod_of_eq (congrArg Nat.succ hgap)
      have hk := Nat.div_lt_of_lt_mul (Nat.mul_comm _ _ ▸ hn)
      rw [hgap] at hpoint
      rw [hdiv] at hk ⊢
      rw [hrem]
      exact hpoint.after_gap_strobe hc (by omega)
  command := by
    rintro n i s t - hs he hn
    have hcfg : (servoView v t).cfg = (servoView v s).cfg := (exec_cfg he).1
    have hpoint := hs (hcfg ▸ hn)
    rwa [← servoView_exec_of_active hpoint.active he] at hpoint

/-- A sweep starts at its first point (R265). -/
theorem atPoint_start {v : Servo} {s : State} (hc : s.cfg.WellFormed) :
    AtPoint v 0 0 (servoView v
      (servoApply v (testAngle s.cfg 0) (setTestIndex v 0 (setTestActive v true s)))) :=
  ⟨by simp [servoView], by simp [servoView],
    held_servoApply (s := setTestIndex v 0 (setTestActive v true s)) hc v _⟩

/-- A cycle without command whose strobe ends the sweep: no sweep, no hold, and the channel released
with no new write (R271). -/
theorem runCycle_ends_sweep {v : Servo} {s : State} {inp : Inputs}
    (h : AtPoint v (2 * s.cfg.sweepN) s.cfg.settleMs (servoView v s)) (hr : inp.rst = false)
    (hs : inp.msStrobe = true) (hv : inp.cmdValid = false) :
    ∃ u, runCycle inp s = .next u ∧ u.testActive.get v = false ∧ u.testIndex.get v = 0 ∧
      u.holdCount.get v = 0 ∧ u.pwmVal.get (servoChannel v) = 0 ∧
      u.pwmUpd.get (servoChannel v) = false := by
  refine ⟨_, runCycle_idle hr hv s, ?_⟩
  have hregs := strobePhase_servoRegs v inp.isense (beginCycle s)
  rw [AtPoint.after_last_strobe (s := beginCycle s) h] at hregs
  simp only [servoRegs, Prod.mk.injEq] at hregs
  obtain ⟨hhold, hactive, hindex, hduty, hupd⟩ := hregs
  have hzero : s.holdCount.get v = 0 := h.held.hold_eq_zero le_rfl
  have hreleased : s.pwmVal.get (servoChannel v) = 0 :=
    h.held.duty.trans (if_neg (lt_irrefl _))
  rw [autonomousPhase_strobe hs]
  simp [hhold, hactive, hindex, hduty, hupd, hzero, hreleased]

/-- Settles O39: the command starts the sweep's timeline, and at its last strobe number the sweep is
in the gap after its last point. -/
theorem sweepTimeline : Obligations.SweepTimeline := by
  intro s v first sched rest hc ha hp hsched hinputs hn k r
  obtain ⟨t, ht, hcfg, hrest, hshows⟩ := (timeline_sweepShows v).of_command hc ha hp
    (fun hucfg hu => ⟨_, exec_servoTest_of_inactive hu,
      sweepShows_zero (atPoint_start (hucfg ▸ hc))⟩)
    (fun inp hinp => ⟨hsched inp hinp, fun _ _ => trivial⟩) hinputs
  have hpoint : AtPoint v k r (servoView v t) := by
    have hview : (servoView v t).cfg = s.cfg := hcfg
    rw [SweepShows, hview] at hshows
    exact hshows hn
  refine ⟨t, ht, hrest, hpoint.active, hpoint.index, ?_, ?_, fun hlast inp hr hs hv => ?_⟩
  · rw [← hcfg]
    exact hpoint.held.hold
  · rw [← hcfg]
    exact hpoint.held.duty
  · obtain ⟨hk, hgap⟩ : k = 2 * t.cfg.sweepN ∧ r = t.cfg.settleMs := by
      rw [Nat.succ_mul, Nat.mul_comm] at hlast
      rw [hcfg]
      exact (Nat.div_mod_unique (by omega)).2 ⟨by omega, Nat.lt_succ_self _⟩
    rw [hk, hgap] at hpoint
    exact runCycle_ends_sweep hpoint hr hs hv

end Sys2Proof.Machine
end

section
/-! SUPPORT. The control family (44_control.md): NOP (R310). Its sub-format takes neither `id` nor
`imm`, so the order of the checks turns every other word with its opcode away as RESERVED_FIELD. -/

namespace Sys2Proof.Machine

/-- A word with NOP's opcode and any other field not 0 is turned away (R102, R110). -/
theorem decode_packWord_nop {id : Byte} {imm : Half} (h : id ≠ 0 ∨ imm ≠ 0) :
    decode (packWord 0x00 id imm) = .error .reservedField := by
  have hop : Opcode.ofByte (fieldsOf (packWord 0x00 id imm)).op = some .nop := by
    rw [fieldsOf_packWord]
    rfl
  obtain ⟨-, hreserved, -⟩ := (dispatchChecksInOrder _).2 _ hop
  refine hreserved.2 ?_
  rw [fieldsOf_packWord]
  rintro ⟨hid, himm⟩
  exact h.elim (fun hne => hne (hid (.inl rfl))) fun hne => hne (himm (.inl rfl))

/-- A word that is no command leaves what `reject` leaves (R114, R320). -/
theorem execute_of_decode_error {w : Word} {e : DecodeError} (h : decode w = .error e)
    (s : State) : execute w s = .next (reject e.status (fieldsOf w).op s) := by
  simp only [execute, h]

/-- Settles O6: any other word with the opcode is rejected, and a cycle that presents NOP runs it
on what the autonomous operations left. -/
theorem nopOnlyResponds : Obligations.NopOnlyResponds := by
  refine ⟨by decide, fun id imm s h => ?_, fun _ => rfl, fun inp s hr hv hw => ?_⟩
  · have hd := decode_packWord_nop h
    refine ⟨hd, ?_⟩
    have hword : responseWord .reservedField 0x00 0 = 0x03000000 := by decide
    rw [execute_of_decode_error hd, fieldsOf_packWord, ← hword]
    rfl
  · have hd : decode inp.cmdWord = .ok .nop := hw ▸ decode_encode .nop
    exact runCycle_performed (performed_of_decode hr hv hd) rfl

end Sys2Proof.Machine
end

section
/-! SUPPORT. The exceptions family (60_exceptions.md): there are none, so a cycle can only answer
or be refused for its unit's configuration (R8, R320, R324). -/

namespace Sys2Proof.Machine

/-- The clock edge gives an illegal configuration no meaning (R8). -/
theorem step_of_not_wellFormed {s : State} (h : ¬ s.cfg.WellFormed) :
    step s = .refused .illegalConfiguration := if_neg h

/-- Settles O42: a legal unit's step is its cycle on the sampled inputs, and every cycle answers,
whatever it is presented. -/
theorem everyCycleCompletes : Obligations.EveryCycleCompletes := fun s =>
  ⟨fun h => step_eq_runCycle h ▸ runCycle_answers (sampledInputs s) (afterSampling s),
    step_of_not_wellFormed⟩

end Sys2Proof.Machine
end

section
/-! SUPPORT. The reset and hazards family (70_reset_and_hazards.md). A cycle's command acts on what
the cycle's autonomous operations left (R60), so what it writes is what the cycle leaves on pins and
channels (R377). A reset cycle keeps nothing of the state but its configuration and the inputs still
to come, so a second one finds every register already at its reset value (R360, R363). -/

namespace Sys2Proof.Machine

/-! ### What a cycle's command acts on (R60, R377) -/

/-- What the coming cycle's command acts on: the state its autonomous operations leave. -/
def commandStart (s : State) : State :=
  autonomousPhase (sampledInputs s) (beginCycle (afterSampling s))

/-- A step that performs a command answers what the command makes of `commandStart`, with the
response marked valid (R54, R60). -/
theorem step_performed {s t : State} {i : Instr} (h : step s = .next t)
    (hp : performed (sampledInputs s) = some i) :
    ∃ u, exec i (commandStart s) = .next u ∧ t = setRespValid true u := by
  obtain ⟨u, hu⟩ := exec_answers i (commandStart s)
  have hrun := (step_next h).2.symm.trans (runCycle_performed hp hu)
  exact ⟨u, hu, Host.Outcome.next.inj hrun⟩

/-- The autonomous operations leave the configuration and the ramp rate. -/
theorem commandStart_cfg_rampRate (s : State) :
    (commandStart s).cfg = s.cfg ∧ (commandStart s).rampRate = s.rampRate := by
  obtain ⟨hcfg, -, -, hrate⟩ := autonomousPhase_cfg (sampledInputs s) (afterSampling s)
  exact ⟨hcfg.trans (by rw [afterSampling_eq]), hrate.trans (by rw [afterSampling_eq])⟩

/-- Where the strobe leaves no sweep of the servo running, the command finds none (R270, R271). -/
theorem commandStart_inactive {s : State} {v : Servo} (h : SweepOver s v) :
    (commandStart s).testActive.get v = false := by
  generalize hstart : beginCycle (afterSampling s) = b
  have hb : b.cfg = s.cfg ∧ b.holdCount = s.holdCount ∧ b.testActive = s.testActive ∧
      b.testIndex = s.testIndex := by
    rw [← hstart, afterSampling_eq]
    exact ⟨rfl, rfl, rfl, rfl⟩
  obtain ⟨hcfg, hhold, hactive, hindex⟩ := hb
  rw [commandStart, hstart]
  cases ha : s.testActive.get v with
  | false => exact autonomousPhase_inactive (by rw [hactive, ha]) _
  | true =>
    obtain ⟨hs, hzero, hlast⟩ := h.resolve_left (by simp [ha])
    have hview := congrArg ServoView.active (servoView_strobePhase v (sampledInputs s).isense b)
    rw [servoStrobeStep_advance (by rw [hhold, hzero]) (by rw [hactive, ha]),
      servoTestAdvance_end (by rw [hindex, hcfg, hlast])] at hview
    rw [autonomousPhase_strobe hs]
    exact hview.trans (by simp [servoView])

/-! ### The motor commands (R170, R180, R195) -/

/-- MOTOR_NEUTRAL leaves COAST with both speeds 0 (R195). -/
theorem exec_motorNeutral_coasts {m : Motor} {s t : State}
    (h : exec (.motorNeutral m) s = .next t) : Coasts t m ∧ curSpeed t m = 0 ∧ tgtSpeed t m = 0 := by
  cases h
  simp [respond, hbCoast_stopSpeeds, Coasts, curSpeed, tgtSpeed]

/-- In direct mode a speed command leaves its speed in both speed registers, with that speed's
pattern and duty (R170, R180). -/
theorem speedCommand_direct_shows {s : State} (h : s.rampRate = 0) {v : Int}
    (hv : -100 ≤ v ∧ v ≤ 100) (m : Motor) :
    curSpeed (speedCommand m v s) m = v ∧ tgtSpeed (speedCommand m v s) m = v ∧
      (0 < v → DrivesCW (speedCommand m v s) m v) ∧
      (v < 0 → DrivesCCW (speedCommand m v s) m (-v)) ∧
      (v = 0 → Coasts (speedCommand m v s) m) := by
  have htgt := tgtSpeed_speedCommand hv.1 hv.2 m s
  rw [speedCommand_direct h] at htgt ⊢
  refine ⟨?_, htgt, applySpeed_shows hv _⟩
  simpa [curSpeed] using toInt_speedOfInt (v := v) (by omega) (by omega)

/-- So does a step that performs one, in a cycle with a strobe and without. -/
theorem step_speedCommand_direct {s t : State} {i : Instr} {op : Byte} {m : Motor} {v : Int}
    (hexec : ∀ r, exec i r = .next (respond .ok op 0 (speedCommand m v r)))
    (hv : -100 ≤ v ∧ v ≤ 100) (h : step s = .next t) (hrate : s.rampRate = 0)
    (hp : performed (sampledInputs s) = some i) :
    curSpeed t m = v ∧ tgtSpeed t m = v ∧ (0 < v → DrivesCW t m v) ∧
      (v < 0 → DrivesCCW t m (-v)) ∧ (v = 0 → Coasts t m) := by
  obtain ⟨u, hu, rfl⟩ := step_performed h hp
  cases (hexec _).symm.trans hu
  have hshows := speedCommand_direct_shows ((commandStart_cfg_rampRate s).2.trans hrate) hv m
  generalize speedCommand m v (commandStart s) = r at hshows ⊢
  exact hshows

/-- A speed operand's magnitude is the operand, at most 100 (R171). -/
theorem mag_zextImm_eq_min (imm : Half) : mag (zextImm imm) = min (imm.toNat : Int) 100 := rfl

/-- A speed operand's magnitude is positive, but for the operand 0 (R171). -/
theorem mag_zextImm_pos_iff (imm : Half) : 0 < mag (zextImm imm) ↔ imm ≠ 0 := by
  rw [mag_zextImm, Nat.cast_pos, Nat.pos_iff_ne_zero, ne_eq, min_toNat_eq_zero_iff]

/-- A step that performs MOTOR_FORWARD in direct mode drives the motor forward, or lets it coast for
the operand 0. -/
theorem step_motorForward_direct {s t : State} {m : Motor} {imm : Half} (h : step s = .next t)
    (hrate : s.rampRate = 0) (hp : performed (sampledInputs s) = some (.motorForward m imm)) :
    curSpeed t m = min (imm.toNat : Int) 100 ∧ tgtSpeed t m = min (imm.toNat : Int) 100 ∧
      (if imm = 0 then Coasts t m else DrivesCW t m (min (imm.toNat : Int) 100)) := by
  obtain ⟨h0, h1⟩ := mag_zextImm_mem imm
  obtain ⟨hcur, htgt, hcw, -, hcoast⟩ :=
    step_speedCommand_direct (fun _ => rfl) ⟨by omega, h1⟩ h hrate hp
  have hpos := mag_zextImm_pos_iff imm
  rw [← mag_zextImm_eq_min]
  refine ⟨hcur, htgt, ?_⟩
  split_ifs with himm
  · exact hcoast (by have := mt hpos.1 (not_not.2 himm); omega)
  · exact hcw (hpos.2 himm)

/-- A step that performs MOTOR_BACKWARD in direct mode drives the motor backward, or lets it coast
for the operand 0. -/
theorem step_motorBackward_direct {s t : State} {m : Motor} {imm : Half} (h : step s = .next t)
    (hrate : s.rampRate = 0) (hp : performed (sampledInputs s) = some (.motorBackward m imm)) :
    curSpeed t m = -min (imm.toNat : Int) 100 ∧ tgtSpeed t m = -min (imm.toNat : Int) 100 ∧
      (if imm = 0 then Coasts t m else DrivesCCW t m (min (imm.toNat : Int) 100)) := by
  obtain ⟨h0, h1⟩ := mag_zextImm_mem imm
  obtain ⟨hcur, htgt, -, hccw, hcoast⟩ :=
    step_speedCommand_direct (fun _ => rfl) ⟨by omega, by omega⟩ h hrate hp
  have hpos := mag_zextImm_pos_iff imm
  rw [← mag_zextImm_eq_min]
  refine ⟨hcur, htgt, ?_⟩
  split_ifs with himm
  · exact hcoast (by have := mt hpos.1 (not_not.2 himm); omega)
  · have hback := hccw (neg_neg_of_pos (hpos.2 himm))
    rwa [neg_neg] at hback

/-! ### The servo commands (R260, R265) -/

/-- Positioning a servo leaves the angle's duty on its channel and a full hold, and its sweep as it
was (R262). -/
theorem servoApply_positions {s : State} (hc : s.cfg.WellFormed) (v : Servo) (angle : Int) :
    (servoApply v angle s).pwmVal.get (servoChannel v) = servoDuty s.cfg v angle ∧
      ((servoApply v angle s).holdCount.get v).toNat = s.cfg.settleMs ∧
      (servoApply v angle s).testActive.get v = s.testActive.get v ∧
      (servoApply v angle s).testIndex.get v = s.testIndex.get v := by
  simpa [servoApply] using toNat_settle hc

/-- SERVO_SET of an angle in range, with no sweep on the servo, leaves the angle's duty, a full hold
and no sweep (R260, R262). -/
theorem exec_servoSet_positions {v : Servo} {imm : Half} {s t : State} (hc : s.cfg.WellFormed)
    (h1 : -90 ≤ imm.toInt) (h2 : imm.toInt ≤ 90) (ha : s.testActive.get v = false)
    (h : exec (.servoSet v imm) s = .next t) :
    t.pwmVal.get (servoChannel v) = servoDuty s.cfg v imm.toInt ∧
      (t.holdCount.get v).toNat = s.cfg.settleMs ∧ t.testActive.get v = false := by
  cases (exec_servoSet_of_inactive h1 h2 ha).symm.trans h
  obtain ⟨hduty, hhold, hactive, -⟩ := servoApply_positions hc v imm.toInt
  exact ⟨hduty, hhold, hactive.trans ha⟩

/-- SERVO_TEST with no sweep on the servo leaves the duty of -90, a full hold and the sweep at its
first point (R265, R266). -/
theorem exec_servoTest_positions {v : Servo} {s t : State} (hc : s.cfg.WellFormed)
    (ha : s.testActive.get v = false) (h : exec (.servoTest v) s = .next t) :
    t.pwmVal.get (servoChannel v) = servoDuty s.cfg v (-90) ∧
      (t.holdCount.get v).toNat = s.cfg.settleMs ∧ t.testActive.get v = true ∧
      t.testIndex.get v = 0 := by
  rw [exec_servoTest_of_inactive ha, testAngle_zero] at h
  cases h
  obtain ⟨hduty, hhold, hactive, hindex⟩ :=
    servoApply_positions (s := setTestIndex v 0 (setTestActive v true s)) hc v (-90)
  exact ⟨hduty, hhold, hactive.trans (by simp), hindex.trans (by simp)⟩

/-- Settles O47: the command runs on what the strobe's operations left, and what each command leaves
depends on neither speeds nor holds nor channels it found. -/
theorem commandAfterTickWins : Obligations.CommandAfterTickWins := by
  refine ⟨fun s t i h hp hs => ?_, fun s t m h hp => ?_, fun s t m h hp => ?_,
    fun s t m imm h hrate hp => step_motorForward_direct h hrate hp,
    fun s t m imm h hrate hp => step_motorBackward_direct h hrate hp,
    fun s t v imm h hp hover h1 h2 => ?_, fun s t v h hp hover => ?_⟩ <;>
    obtain ⟨u, hu, rfl⟩ := step_performed h hp
  · rw [commandStart, autonomousPhase_strobe hs] at hu
    exact ⟨u, hu, rfl⟩
  · obtain ⟨hbrakes, hcur, htgt, -⟩ := exec_motorBrake_brakesAtRest hu
    exact ⟨hbrakes, hcur, htgt⟩
  · obtain ⟨hcoasts, hcur, htgt⟩ := exec_motorNeutral_coasts hu
    exact ⟨hcoasts, hcur, htgt⟩
  · obtain ⟨hcfg, -⟩ := commandStart_cfg_rampRate s
    obtain ⟨hduty, hhold, hactive⟩ := exec_servoSet_positions (hcfg ▸ (step_next h).1) h1 h2
      (commandStart_inactive hover) hu
    exact ⟨hcfg ▸ hduty, hcfg ▸ hhold, hactive⟩
  · obtain ⟨hcfg, -⟩ := commandStart_cfg_rampRate s
    obtain ⟨hduty, hhold, hactive, hindex⟩ := exec_servoTest_positions (hcfg ▸ (step_next h).1)
      (commandStart_inactive hover) hu
    exact ⟨hcfg ▸ hduty, hcfg ▸ hhold, hactive, hindex⟩

/-! ### Reset (R62, R360, R363) -/

/-- A reset cycle performs `ResetState()` and nothing else, whatever it is presented (R62). -/
theorem runCycle_reset {inp : Inputs} (h : inp.rst = true) (s : State) :
    runCycle inp s = .next (resetState s) := if_pos h

/-- Settles O48: what a reset cycle leaves is what `ResetState()` writes, which does not depend on
the registers it finds. -/
theorem resetCycle : Obligations.ResetCycle := by
  refine ⟨fun s hc hr => ?_, fun s first second rest hc hinputs h1 h2 => ?_⟩
  · rw [step_eq_runCycle hc, runCycle_reset hr, afterSampling_eq]
    rfl
  · exact ⟨_, step_of_runCycle hc hinputs (runCycle_reset h1 _),
      step_of_runCycle (queue := rest) hc rfl (runCycle_reset h2 _)⟩

end Sys2Proof.Machine
end
